-- ==== Sys2Proof/Word.lean ====
section
/-! DEFINITION. The words of the sensor protocol block: a byte, a 32-bit register word, the 32-byte
frame window and the 15-byte command block. -/

namespace Sys2Proof

/-- One byte of a frame or of a command block (R6, R60, R76). -/
abbrev Byte := BitVec 8

/-- One 32-bit register: CMD, STATUS or FAULT (R18, R20, R21). -/
abbrev Word := BitVec 32

/-- The window of one transport read: 32 bytes, byte 0 first (R4 `FRAME_WINDOW`, R14, R60). -/
abbrev Window := Vector Byte 32

/-- A command block: 15 bytes, byte 0 first (R4 `CMD_BLOCK_LEN`, R76). -/
abbrev Block := Vector Byte 15

end Sys2Proof
end

