-- ==== Sys2Proof/Config.lean ====
section
/-! DEFINITION. The implementation parameters of R4, the two parameters of section "Parameters left
open" of spec/92_eei_decisions.md, and the free values: what the Device and the Bus answer. The parameters
that a definition of the machine computes with (`FW_TEXT_OFFSET`, `FW_STRIP_SET`, the value of
`P_NORM_TIE`) stand beside that definition, in Decode.lean and Machine/Operands.lean. -/

namespace Sys2Proof

/-- How the 4-digit rounding breaks a tie: parameter `P_NORM_TIE` (R4, R6, R173). -/
inductive TieMode where
  /-- A tie goes to the even integer. -/
  | halfEven
  /-- A tie goes to the larger integer. -/
  | halfUp
  deriving DecidableEq, Repr, Inhabited

/-- What a gesture class id from 8 to 255 yields: parameter `P_GESTURE_UNMAPPED` (R175). -/
inductive GestureUnmapped where
  /-- No record. -/
  | drop
  /-- One GESTURE record with the tag UNMAPPED. -/
  | emitUnmapped
  deriving DecidableEq, Repr, Inhabited

/-- The two parameters the decoder takes as arguments (R4). -/
structure Params where
  tie : TieMode
  unmapped : GestureUnmapped
  deriving DecidableEq, Repr, Inhabited

/-- The level of the transfer-ready line at a sample: `high` is 1 (idle, pulled up), `low` is 0
(asserted by the Device) (R7, R50). -/
inductive Level where
  | low
  | high
  deriving DecidableEq, Repr, Inhabited

/-- The single answer of a block read: exactly 32 bytes, or a BusError (R44). -/
inductive ReadAnswer where
  | ok (bytes : Window)
  | busError
  deriving DecidableEq, Repr, Inhabited

/-- The single answer of a block write: it completes or it fails (R45). -/
inductive WriteAnswer where
  | ok
  | busError
  deriving DecidableEq, Repr, Inhabited

namespace Config

/-- `FRAME_WINDOW`, R4. -/
def frameWindow : Nat := 32

/-- `HEADER_LEN`, R4. -/
def headerLen : Nat := 4

/-- `PAYLOAD_LEN`, R4. -/
def payloadLen : Nat := 28

/-- `FRAME_READ_REG`, R4: the device register a frame is read from. -/
def frameReadReg : Byte := 0x00

/-- `CMD_WRITE_REG`, R4: the device register a command block is written to. -/
def cmdWriteReg : Byte := 0x10

/-- `CMD_BLOCK_LEN`, R4. -/
def cmdBlockLen : Nat := 15

/-- `MAX_TRIES_DEFAULT`, R4, R83. -/
def maxTriesDefault : Nat := 10

/-- `AIRWHEEL_STEPS_PER_REV`, R4: informational, no rule of the block uses it (R71). -/
def airwheelStepsPerRev : Nat := 32

/-- `P_GESTURE_UNMAPPED`, OPEN in the spec (R4, R175, D12): a free value with no body. Safe: nothing
can be proved that holds for one of the two values only (log entry 5). -/
opaque gestureUnmapped : GestureUnmapped

/-- The level the n-th free draw of the transfer-ready line gives (R50, R52, D22). Safe: a free
value with no body (log entry 1). -/
opaque lineLevel : Nat → Level

/-- What the n-th free draw of a block read of register 0x00 answers (R44, R52, D22). Safe: a free
value with no body (log entry 1). -/
opaque readAnswer : Nat → ReadAnswer

/-- What the n-th free draw of a block write to register 0x10 answers (R45). Safe: a free value with
no body (log entry 1). -/
opaque writeAnswer : Nat → WriteAnswer

end Config

end Sys2Proof
end

