-- ==== Sys2Proof/Machine/State.lean ====
section
/-! DEFINITION. The state of the sensor protocol block as plain data: every register of
spec/10_state.md, and the moves and answers of the environment agents. -/

namespace Sys2Proof.Machine

/-- The block's drive of the transfer-ready line (R11). -/
inductive TsMode where
  /-- Input with pull-up: the Device owns the line. -/
  | inPu
  /-- Driven low by the block. -/
  | outLow
  deriving DecidableEq, Repr

/-- The sequencer states (R12). -/
inductive Seq where
  | idle
  | tReady
  | tFreeze
  | tDrain
  | tRelease
  | pStart
  | pAttempt
  | pMatch
  | pInterval
  | dDecode
  | halted
  deriving DecidableEq, Repr

/-- The result codes of `STATUS.RES` (R84). Codes 12 to 14 are never written and have no name. -/
inductive Res where
  | none
  | frame
  | noFrame
  | busError
  | ack
  | timeout
  | decSensor
  | decStatus
  | decFirmware
  | decUnknown
  | decShort
  | pollDone
  | faulted
  deriving DecidableEq, Repr

/-- The outcomes of `STATUS.XFER` (R20, R84). -/
inductive Xfer where
  | none
  | frame
  | noFrame
  | busError
  deriving DecidableEq, Repr

/-- The three model faults of the spec: bits 0, 1 and 2 of FAULT (R21). -/
inductive ModelFault where
  | illegalCommand
  | decodeEmpty
  | shortSensor
  deriving DecidableEq, Repr

/-- Gesture tags (R67, R85). -/
inductive GestureTag where
  | garbage
  | flickWE
  | flickEW
  | flickSN
  | flickNS
  | circleCW
  | circleCCW
  | unmapped
  deriving DecidableEq, Repr

/-- Touch kinds (R69, R85). -/
inductive TouchKind where
  | doubleTap
  | tap
  | touch
  deriving DecidableEq, Repr

/-- Touch positions (R69, R85). -/
inductive TouchPos where
  | center
  | east
  | north
  | west
  | south
  deriving DecidableEq, Repr

/-- Event records (R86). -/
inductive Event where
  /-- POSITION: raw values, and normalized values in units of 0.0001. -/
  | position (xRaw yRaw zRaw : BitVec 16) (xN yN zN : BitVec 14)
  /-- GESTURE. -/
  | gesture (code : Byte) (tag : GestureTag)
  /-- TOUCH. -/
  | touch (bit : BitVec 4) (kind : TouchKind) (pos : TouchPos)
  /-- AIRWHEEL. -/
  | airwheel (rot : Byte)
  /-- FIRMWARE: the text bytes as read, and the length after stripping. -/
  | firmware (raw : List Byte) (len : BitVec 5)
  deriving DecidableEq, Repr

/-- One move of an agent, in the order in which the moves come (R5; log entry 2). -/
inductive Input where
  /-- The block takes its own step. -/
  | spb
  /-- The Commander writes a command word to CMD (R18). -/
  | command (word : Word)
  /-- The lifecycle controller writes a command block to device register 0x10 (R45, R49). -/
  | blockWrite (block : Block)
  /-- The Timer delivers one TICK (R125). -/
  | tick
  /-- The Consumer takes the event records: it reads `evq` (R5, R22). -/
  | consumer
  /-- The block's reset input is asserted (R240). -/
  | blockReset
  deriving DecidableEq, Repr

/-- The environment agents as plain data. `devBlock` and `hostWrite` are what the spec says a block
write leaves (R45, R46), `consumerReads` is what the Consumer has taken (R5, R22); the other fields are
the model's own (log entries 1, 2, 4 and 25). -/
structure Env where
  /-- The moves still to come. When there are none left, it is the block's turn at every step. -/
  inputs : List Input
  /-- The levels the next samples of the line read; then free values. -/
  lineDraws : List Level
  /-- The answers of the next block reads; then free values. -/
  readDraws : List ReadAnswer
  /-- The answers of the next block writes; then free values. -/
  writeDraws : List WriteAnswer
  /-- The index of the next free value. -/
  drawNo : Nat
  /-- The command block last delivered to device register 0x10. -/
  devBlock : Option Block
  /-- The answer of the lifecycle controller's last block write. -/
  hostWrite : Option WriteAnswer
  /-- The records each read of `evq` by the Consumer gave, the oldest read first. -/
  consumerReads : List (List Event)
  deriving DecidableEq, Repr

/-- The registers of the block and its environment. -/
structure State where
  /-- `ts_mode` (R11). -/
  tsMode : TsMode
  /-- `seq` (R12). -/
  seq : Seq
  /-- `frame` (R14). -/
  frame : Window
  /-- `frame_len`, 0 to 32 (R16). -/
  frameLen : Fin 33
  /-- `frame_valid` (R15). -/
  frameValid : Bool
  /-- `p_expected` (R17). -/
  pExpected : Byte
  /-- `p_max` (R17). -/
  pMax : Byte
  /-- `p_tries` (R17). -/
  pTries : Byte
  /-- `CMD` (R18). -/
  cmd : Word
  /-- `busy` (R19). -/
  busy : Bool
  /-- `STATUS` (R20). -/
  status : Word
  /-- `FAULT` (R21). -/
  fault : Word
  /-- `evq`, oldest record first (R22). -/
  evq : List Event
  /-- The environment agents. -/
  env : Env
  deriving DecidableEq, Repr

/-- Why the machine stops. -/
inductive Fault where
  /-- The block's turn in HALTED: no step of the block is enabled until a block reset (R214, 93 I9).
  Raised by `spbTurn` and by the meaning of every instruction. Safe: the spec's "stuck". -/
  | halted
  /-- `seq` holds a state that the running command never enters, or there is no running command that
  decodes. R26 and the step rules exclude it. Raised by the meanings. Safe. -/
  | strayStep
  /-- T_READY with the line driven: "Legal only while `ts_mode = IN_PU`" (R7, R102). Raised by
  `tReady`. Safe. -/
  | sampleWhileDriven
  /-- P_ATTEMPT without its precondition `p_tries < p_max` (R122). Raised by `pAttempt`. Safe. -/
  | attemptOverBudget
  /-- The exit of TRY_READ_FRAME with `STATUS.XFER = NONE`, for which R106 gives no result. Raised by
  `exitTryReadFrame`. Safe. -/
  | noOutcome
  deriving DecidableEq, Repr

/-- Why an instruction has no meaning. -/
inductive Refusal where
  /-- The instruction has no meaning in this model yet; no arm of `exec` uses it. Safe. -/
  | notModelled (mnemonic : String)
  deriving DecidableEq, Repr

/-- The environment of a machine in which nothing has happened and nothing is scheduled. DESIGN
CHOICE, unsafe where a claim rests on the values (log entry 4). -/
def Env.quiet : Env where
  inputs := []
  lineDraws := []
  readDraws := []
  writeDraws := []
  drawNo := 0
  devBlock := none
  hostWrite := none
  consumerReads := []

/-- The machine right after a block reset at power-on (R240). `frame`, `frame_len`, `p_expected`,
`p_max`, `p_tries` and `CMD` have no value in the spec: DESIGN CHOICE 0, unsafe (log entry 3). -/
def State.reset : State where
  tsMode := .inPu
  seq := .idle
  frame := Vector.replicate 32 0
  frameLen := 0
  frameValid := false
  pExpected := 0
  pMax := 0
  pTries := 0
  cmd := 0
  busy := false
  status := 0
  fault := 0
  evq := []
  env := Env.quiet

/-- The outcome of one step of this machine. -/
abbrev Out := Host.Outcome State Fault Refusal

end Sys2Proof.Machine
end

