-- ==== Sys2Proof/Machine/Flags.lean ====
section
/-! DEFINITION. The fields of STATUS and the bits of FAULT: the only status bits of the block (R20,
R21, R24). -/

namespace Sys2Proof.Machine

/-- Bits `lo + n - 1` down to `lo` of a register word (R6). -/
def getBits (w : Word) (lo n : Nat) : BitVec n := w.extractLsb' lo n

/-- The register word with the bits from `lo` up replaced by v and every other bit kept. -/
def setBits {n : Nat} (w : Word) (lo : Nat) (v : BitVec n) : Word :=
  (w &&& ~~~((BitVec.allOnes n).setWidth 32 <<< lo)) ||| (v.setWidth 32 <<< lo)

/-! ### Codes -/

/-- R84. -/
def Res.code : Res → BitVec 4
  | .none => 0
  | .frame => 1
  | .noFrame => 2
  | .busError => 3
  | .ack => 4
  | .timeout => 5
  | .decSensor => 6
  | .decStatus => 7
  | .decFirmware => 8
  | .decUnknown => 9
  | .decShort => 10
  | .pollDone => 11
  | .faulted => 15

/-- R20, R84. -/
def Xfer.code : Xfer → BitVec 2
  | .none => 0
  | .frame => 1
  | .noFrame => 2
  | .busError => 3

/-- The outcome an XFER field holds; every one of the four codes has one (R20). -/
def Xfer.ofCode (c : BitVec 2) : Xfer :=
  if c = 1 then .frame else if c = 2 then .noFrame else if c = 3 then .busError else .none

/-- R21: the bit of FAULT each model fault sets. -/
def ModelFault.bit : ModelFault → Nat
  | .illegalCommand => 0
  | .decodeEmpty => 1
  | .shortSensor => 2

/-! ### Reading the fields of STATUS (R20) -/

/-- `STATUS.RES`, bits [3:0]. -/
def statusRes (w : Word) : BitVec 4 := getBits w 0 4

/-- `STATUS.XFER`, bits [5:4]. -/
def statusXfer (w : Word) : Xfer := Xfer.ofCode (getBits w 4 2)

/-- `STATUS.EVCNT`, bits [10:8]. -/
def statusEvcnt (w : Word) : BitVec 3 := getBits w 8 3

/-- `STATUS.TRIES`, bits [23:16]. -/
def statusTries (w : Word) : Byte := getBits w 16 8

/-- `STATUS.FV`, bit [24]. -/
def statusFv (w : Word) : Bool := getBits w 24 1 == 1#1

/-- `STATUS.HALT`, bit [31]. -/
def statusHalt (w : Word) : Bool := getBits w 31 1 == 1#1

/-! ### Writing the fields of STATUS (R20) -/

/-- `STATUS.RES <- r`. -/
def setStatusRes (r : Res) (w : Word) : Word := setBits w 0 r.code

/-- `STATUS.XFER <- x`. -/
def setStatusXfer (x : Xfer) (w : Word) : Word := setBits w 4 x.code

/-- `STATUS.EVCNT <- n`. -/
def setStatusEvcnt (n : Nat) (w : Word) : Word := setBits w 8 (BitVec.ofNat 3 n)

/-- `STATUS.TRIES <- n`. -/
def setStatusTries (n : Byte) (w : Word) : Word := setBits w 16 n

/-- `STATUS.FV <- b`. -/
def setStatusFv (b : Bool) (w : Word) : Word := setBits w 24 (BitVec.ofBool b)

/-- `STATUS.HALT <- 1`. -/
def setStatusHalt (w : Word) : Word := setBits w 31 1#1

/-- `FAULT[f] <- 1`, sticky (R21, R214). -/
def setFaultBit (f : ModelFault) (w : Word) : Word := setBits w f.bit 1#1

end Sys2Proof.Machine
end

