-- ==== Sys2Proof/Syntax.lean ====
section
/-! DEFINITION. The instructions: one constructor for each row of spec/opcode_table.json, and the
three formats their encodings take. -/

namespace Sys2Proof

/-- The fields of a SENSOR_DATA frame that a rule reads (R64). The ignored bytes and bits (R74) are
no operands. -/
structure SensorFields where
  /-- `LE16(frame[4], frame[5])`, the ConfigMask (R65). -/
  configmask : BitVec 16
  /-- `frame[7]`, the SystemInfo (R66). -/
  sysinfo : Byte
  /-- `frame[10]`, the gesture class id (R67). -/
  gesture : Byte
  /-- `LE16(frame[14], frame[15])[14:0]`, the touch action field (R68). -/
  touch : BitVec 15
  /-- `frame[18]`, the air-wheel rotation (R71). -/
  airwheel : Byte
  /-- `LE16(frame[20], frame[21])` (R70). -/
  x : BitVec 16
  /-- `LE16(frame[22], frame[23])` (R70). -/
  y : BitVec 16
  /-- `LE16(frame[24], frame[25])` (R70). -/
  z : BitVec 16
  deriving DecidableEq, Repr

/-- One constructor per row of the opcode table: five command words (R81), six forms of a frame
(R141) and the command block of the lifecycle controller (R76). -/
inductive Instr where
  /-- TRY_READ_FRAME (R100). -/
  | tryReadFrame
  /-- AWAIT_STATUS exp, maxt (R120). -/
  | awaitStatus (exp maxt : Byte)
  /-- DECODE (R140). -/
  | decode
  /-- POLL_ONCE (R200). -/
  | pollOnce
  /-- ILLEGAL_COMMAND: a command word that matches none of the four rows above (R81, R82). -/
  | illegalCommand (word : Word)
  /-- FRAME_SHORT: fewer than 4 bytes; the operand is `frame_len` (R142). -/
  | frameShort (len : BitVec 4)
  /-- FRAME_SYSTEM_STATUS: identifier 0x15; the operand is `payload[0]`, absent in a frame of
  exactly 4 bytes (R72, R145). -/
  | frameSystemStatus (commandId : Option Byte)
  /-- FRAME_FIRMWARE_VERSION: identifier 0x83; the operand is the text `b[12..L)` (R73, R146). -/
  | frameFirmwareVersion (text : List Byte)
  /-- FRAME_SENSOR_DATA: identifier 0x91 and at least 26 bytes (R64, R143). -/
  | frameSensorData (fields : SensorFields)
  /-- FRAME_REQUEST_MSG: identifier 0x06, decoded as unknown (R63, R147). -/
  | frameRequestMsg
  /-- FRAME_UNKNOWN: any other identifier (R63, R147). -/
  | frameUnknown (identifier : Byte)
  /-- SET_RUNTIME_BLOCK: the 15-byte block write of command id 0xA2 to register 0x10 (R76, R78). -/
  | setRuntimeBlock (argAddr : Byte) (arg0 arg1 : BitVec 32)
  deriving DecidableEq, Repr

/-- The bits an instruction is read from: a command word in CMD, the held bytes of the frame
register, or the bytes of a block write. -/
inductive Image where
  | command (word : Word)
  | frame (bytes : List Byte)
  | block (bytes : List Byte)
  deriving DecidableEq, Repr

end Sys2Proof
end

