-- ==== Sys2Proof/WellFormed.lean ====
section
/-! DEFINITION. Which terms of `Instr` stand for an encoding of the opcode table. -/

namespace Sys2Proof

/-- A command word that some row of R81's table matches, by the table's match and mask. -/
def commandRowMatches (w : Word) : Bool :=
  w == 0x00000001#32 || w &&& 0xFF0000FF#32 == 0x00000002#32 || w == 0x00000003#32 ||
    w == 0x00000004#32

/-- The identifiers that have a row of their own (R62, R63). -/
def namedIdentifiers : List Byte := [0x15, 0x83, 0x91, 0x06]

/-- The operands of an instruction lie in the ranges the opcode table gives its row: an illegal
command word matches no row, a short frame has 0 to 3 bytes, a firmware text at most the 20 bytes of
the window after byte 12, and an unknown frame no identifier with a row of its own. -/
def Instr.wellFormed : Instr → Bool
  | .tryReadFrame => true
  | .awaitStatus _ _ => true
  | .decode => true
  | .pollOnce => true
  | .illegalCommand w => !commandRowMatches w
  | .frameShort len => decide (len.toNat < 4)
  | .frameSystemStatus _ => true
  | .frameFirmwareVersion text => decide (text.length ≤ 20)
  | .frameSensorData _ => true
  | .frameRequestMsg => true
  | .frameUnknown identifier => !namedIdentifiers.contains identifier
  | .setRuntimeBlock _ _ _ => true

end Sys2Proof
end

