-- ==== Sys2Proof/Decode.lean ====
section
/-! DEFINITION. The decoder of the three formats, total on any bits and rejecting by name; after it
the encoder, written from the same tables; and the host's way to ask for one table word. -/

namespace Sys2Proof

/-- Why some bytes are no instruction of the table. -/
inductive DecodeError where
  /-- A frame longer than the 32-byte window: no such sequence is ever held (R16). Safe. -/
  | frameTooLong
  /-- Identifier 0x91 with 4 to 25 bytes: `Dec` returns ShortSensor (R144). Safe. -/
  | shortSensor
  /-- A block write that has not 15 bytes (R76). Safe. -/
  | blockLength
  /-- A block whose byte 2 is not 0xA2, the only command id the spec names (R78, D29). Safe. -/
  | blockCommandId
  /-- A block with a byte other than 0x00 where R76 puts 0x00. Safe. -/
  | blockPadding
  deriving DecidableEq, Repr

/-- Byte i of a byte sequence. A caller tests the length first, so that the default stands for an
absent byte that no rule reads (R6). -/
def byteAt (b : List Byte) (i : Nat) : Byte := b.getD i 0

/-- `LE16(lo, hi)`: the byte at the lower offset is the less significant (R6, R41). -/
def le16 (lo hi : Byte) : BitVec 16 := hi ++ lo

/-- Four bytes, the first the least significant (R42). -/
def le32 (b0 b1 b2 b3 : Byte) : BitVec 32 := b3 ++ b2 ++ b1 ++ b0

/-- The low byte of a 16-bit field. -/
def lo8 (v : BitVec 16) : Byte := v.extractLsb' 0 8

/-- The high byte of a 16-bit field. -/
def hi8 (v : BitVec 16) : Byte := v.extractLsb' 8 8

/-- The 16-bit field at byte offset o (R41). -/
def field16 (b : List Byte) (o : Nat) : BitVec 16 := le16 (byteAt b o) (byteAt b (o + 1))

/-- The 32-bit field at byte offset o (R42). -/
def field32 (b : List Byte) (o : Nat) : BitVec 32 :=
  le32 (byteAt b o) (byteAt b (o + 1)) (byteAt b (o + 2)) (byteAt b (o + 3))

/-- The four little-endian bytes of a 32-bit argument (R42, R76). -/
def bytes32 (v : BitVec 32) : List Byte :=
  [v.extractLsb' 0 8, v.extractLsb' 8 8, v.extractLsb' 16 8, v.extractLsb' 24 8]

/-! ### Command words -/

/-- `OP = CMD[3:0]` (R80). -/
def cmdOp (w : Word) : BitVec 4 := w.extractLsb' 0 4

/-- `CMD[7:4]`, must be 0 (R80). -/
def cmdZero0 (w : Word) : BitVec 4 := w.extractLsb' 4 4

/-- `EXP = CMD[15:8]` (R80, R120). -/
def cmdExp (w : Word) : Byte := w.extractLsb' 8 8

/-- `MAXT = CMD[23:16]` (R80, R120). -/
def cmdMaxt (w : Word) : Byte := w.extractLsb' 16 8

/-- `CMD[31:24]`, must be 0 (R80). -/
def cmdZero1 (w : Word) : Byte := w.extractLsb' 24 8

/-- R80, R81: the instruction of a command word. It is total: a word with no row, or with a
must-be-0 bit set, is ILLEGAL_COMMAND. -/
def decodeCommand (w : Word) : Instr :=
  if cmdZero0 w ≠ 0 ∨ cmdZero1 w ≠ 0 then .illegalCommand w
  else if cmdOp w = 2 then .awaitStatus (cmdExp w) (cmdMaxt w)
  else if cmdExp w ≠ 0 ∨ cmdMaxt w ≠ 0 then .illegalCommand w
  else if cmdOp w = 1 then .tryReadFrame
  else if cmdOp w = 3 then .decode
  else if cmdOp w = 4 then .pollOnce
  else .illegalCommand w

/-! ### Frames -/

/-- `SYSTEM_STATUS`, R62, R75. -/
def idSystemStatus : Byte := 0x15

/-- `REQUEST_MSG`, R63, R75. -/
def idRequestMsg : Byte := 0x06

/-- `FIRMWARE_VERSION`, R62, R75. -/
def idFirmwareVersion : Byte := 0x83

/-- `SENSOR_DATA`, R62, R75. -/
def idSensorData : Byte := 0x91

/-- `SET_RUNTIME`, the command id of every configuration block (R75, R78). -/
def idSetRuntime : Byte := 0xA2

/-- `FW_TEXT_OFFSET`: payload offset 8, frame byte 12 (R4, R73). -/
def fwTextOffset : Nat := 12

/-- The sensor-data fields at their fixed offsets (R64). -/
def sensorFields (b : List Byte) : SensorFields where
  configmask := field16 b 4
  sysinfo := byteAt b 7
  gesture := byteAt b 10
  touch := (field16 b 14).extractLsb' 0 15
  airwheel := byteAt b 18
  x := field16 b 20
  y := field16 b 22
  z := field16 b 24

/-- R141: how the bytes a frame holds are read. The length is tested before the identifier. -/
def decodeFrame (b : List Byte) : Except DecodeError Instr :=
  if 32 < b.length then .error .frameTooLong
  else if b.length < 4 then .ok (.frameShort (BitVec.ofNat 4 b.length))
  else if byteAt b 3 = idSensorData then
    if b.length < 26 then .error .shortSensor else .ok (.frameSensorData (sensorFields b))
  else if byteAt b 3 = idSystemStatus then .ok (.frameSystemStatus b[4]?)
  else if byteAt b 3 = idFirmwareVersion then
    .ok (.frameFirmwareVersion (b.drop fwTextOffset))
  else if byteAt b 3 = idRequestMsg then .ok .frameRequestMsg
  else .ok (.frameUnknown (byteAt b 3))

/-! ### Command blocks -/

/-- The offsets at which R76 puts 0x00. -/
def blockZeroOffsets : List Nat := [0, 1, 4, 5, 6]

/-- R76, R78: the SET_RUNTIME block. -/
def decodeBlock (b : List Byte) : Except DecodeError Instr :=
  if b.length ≠ 15 then .error .blockLength
  else if byteAt b 2 ≠ idSetRuntime then .error .blockCommandId
  else if blockZeroOffsets.all (fun i => byteAt b i == 0) then
    .ok (.setRuntimeBlock (byteAt b 3) (field32 b 7) (field32 b 11))
  else .error .blockPadding

/-- The decoder: total on any bits, rejecting by name. -/
def decode : Image → Except DecodeError Instr
  | .command w => .ok (decodeCommand w)
  | .frame b => decodeFrame b
  | .block b => decodeBlock b

/-! ### The encoder -/

/-- A command word from its fields (R80): `[31:24] 0, MAXT, EXP, [7:4] 0, OP`. -/
def commandWord (op : BitVec 4) (exp maxt : Byte) : Word := 0#8 ++ maxt ++ exp ++ 0#4 ++ op

/-- The header of a frame: size, flags and sequence 0x00, then the identifier (R60). -/
def frameHeader (identifier : Byte) : List Byte := [0, 0, 0, identifier]

/-- n bytes of 0x00. -/
def zeros (n : Nat) : List Byte := List.replicate n 0

/-- The 28 payload bytes of a sensor-data frame (R64); the ignored bytes are 0x00. -/
def sensorPayload (f : SensorFields) : List Byte :=
  [lo8 f.configmask, hi8 f.configmask, 0, f.sysinfo, 0, 0, f.gesture, 0, 0, 0,
    lo8 (f.touch.setWidth 16), hi8 (f.touch.setWidth 16), 0, 0, f.airwheel, 0,
    lo8 f.x, hi8 f.x, lo8 f.y, hi8 f.y, lo8 f.z, hi8 f.z] ++ zeros 6

/-- The 15 bytes of a SET_RUNTIME block (R76). -/
def blockBytes (argAddr : Byte) (arg0 arg1 : BitVec 32) : List Byte :=
  [0, 0, idSetRuntime, argAddr, 0, 0, 0] ++ bytes32 arg0 ++ bytes32 arg1

/-- The words of a well-formed instruction. A frame is encoded with every ignored byte 0x00, at the
length of a transport frame where its operands allow it. -/
def encode : Instr → Image
  | .tryReadFrame => .command (commandWord 1 0 0)
  | .awaitStatus exp maxt => .command (commandWord 2 exp maxt)
  | .decode => .command (commandWord 3 0 0)
  | .pollOnce => .command (commandWord 4 0 0)
  | .illegalCommand w => .command w
  | .frameShort len => .frame (zeros len.toNat)
  | .frameSystemStatus none => .frame (frameHeader idSystemStatus)
  | .frameSystemStatus (some c) => .frame (frameHeader idSystemStatus ++ [c] ++ zeros 27)
  | .frameFirmwareVersion text => .frame (frameHeader idFirmwareVersion ++ zeros 8 ++ text)
  | .frameSensorData f => .frame (frameHeader idSensorData ++ sensorPayload f)
  | .frameRequestMsg => .frame (frameHeader idRequestMsg ++ zeros 28)
  | .frameUnknown identifier => .frame (frameHeader identifier ++ zeros 28)
  | .setRuntimeBlock a p q => .block (blockBytes a p q)

/-! ### One word of the opcode table -/

/-- The first n little-endian bytes of a number. -/
def natBytes : Nat → Nat → List Byte
  | 0, _ => []
  | n + 1, w => BitVec.ofNat 8 w :: natBytes n (w / 256)

/-- The bytes of the frame that an 8-bit table word stands for. The table gives FRAME_SHORT the
field `frame_len` and every other FRAME row the identifier byte `frame[3]`. DESIGN CHOICE, safe: a
word below 4 is read as `frame_len`, any other as the identifier of a 32-byte frame (log entry 7). -/
def tableFrame (w : Nat) : List Byte :=
  if w < 4 then zeros w else frameHeader (BitVec.ofNat 8 w) ++ zeros 28

/-- What a table word of nbits bits stands for: 32 bits (or none at all) a command word, up to 8
bits a frame, anything else the bytes of a command block. -/
def tableImage (nbits w : Nat) : Image :=
  if nbits = 0 ∨ nbits = 32 then .command (BitVec.ofNat 32 w)
  else if nbits ≤ 8 then .frame (tableFrame w)
  else .block (natBytes 15 w)

/-- The instruction the decoder reads from one word of spec/opcode_table.json. -/
def decodeTableWord (nbits w : Nat) : Option Instr :=
  match decode (tableImage nbits w) with
  | .ok i => some i
  | .error _ => none

end Sys2Proof
end

