-- ==== Sys2Proof/Machine/Operands.lean ====
section
/-! DEFINITION. The value computations on the fields of a frame and of a command: the normalization
of an axis value, the gesture and touch tables, the firmware strip, the acknowledgement test. -/

namespace Sys2Proof.Machine

/-! ### Parameters -/

/-- `P_NORM_TIE`: the spec's value is HALF_EVEN (R4, R173, D13; log entry 6). -/
def normTie : TieMode := .halfEven

/-- The parameters the machine runs with; `P_GESTURE_UNMAPPED` is open (R4, R175; log entry 5). -/
def machineParams : Params where
  tie := normTie
  unmapped := Config.gestureUnmapped

/-- `FW_STRIP_SET` (R4, R180). PRESUMED, unsafe: the spec itself takes the byte values of NUL, CR,
LF and space from ASCII (93 K1; log entry 15). -/
def fwStripSet : List Byte := [0x00, 0x0D, 0x0A, 0x20]

/-! ### Normalization -/

/-- `round_T` of the quotient n / d, for d > 0 (R6). -/
def roundDiv (t : TieMode) (n d : Nat) : Nat :=
  let q := n / d
  let r := n % d
  if 2 * r < d then q
  else if d < 2 * r then q + 1
  else
    match t with
    | .halfEven => if q % 2 = 0 then q else q + 1
    | .halfUp => q + 1

/-- `N(v) = round_T(v * 625 / 4096)`, in units of 0.0001 (R173). -/
def normalizeAxis (t : TieMode) (v : BitVec 16) : Nat := roundDiv t (v.toNat * 625) 4096

/-- The raw value a normalized one scales back to: `round(N * 65536 / 10000)` (R182). No tie arises,
because 65536/10000 = 4096/625 has an odd denominator. -/
def scaleBack (t : TieMode) (n : Nat) : Nat := roundDiv t (n * 65536) 10000

/-! ### Gestures -/

/-- The codes of the gesture tags (R67, R85). -/
def GestureTag.code : GestureTag → Nat
  | .garbage => 1
  | .flickWE => 2
  | .flickEW => 3
  | .flickSN => 4
  | .flickNS => 5
  | .circleCW => 6
  | .circleCCW => 7
  | .unmapped => 15

/-- The tag of a class id from 1 to 7 (R67, R174); no other class id has one. -/
def gestureTag (g : Byte) : Option GestureTag :=
  match g.toNat with
  | 1 => some .garbage
  | 2 => some .flickWE
  | 3 => some .flickEW
  | 4 => some .flickSN
  | 5 => some .flickNS
  | 6 => some .circleCW
  | 7 => some .circleCCW
  | _ => none

/-- `Unmapped(g)` (R175). -/
def unmappedGesture (p : GestureUnmapped) (g : Byte) : List Event :=
  match p with
  | .drop => []
  | .emitUnmapped => [.gesture g .unmapped]

/-! ### Touch -/

/-- The highest set bit below bit n of the action field, scanning downward (R177). -/
def highestSetBelow (a : BitVec 15) : Nat → Option Nat
  | 0 => none
  | n + 1 => if a.getLsbD n then some n else highestSetBelow a n

/-- The action bit that is reported: `max { j | 0 ≤ j ≤ 14, A[j] = 1 }` (R176, R177). -/
def highestSet (a : BitVec 15) : Option Nat := highestSetBelow a 15

/-- `tkind`: 0 DOUBLE_TAP, 1 TAP, 2 TOUCH (R85). -/
def touchKindOfIndex : Nat → TouchKind
  | 0 => .doubleTap
  | 1 => .tap
  | _ => .touch

/-- `tpos`: 0 CENTER, 1 EAST, 2 NORTH, 3 WEST, 4 SOUTH (R85). -/
def touchPosOfIndex : Nat → TouchPos
  | 0 => .center
  | 1 => .east
  | 2 => .north
  | 3 => .west
  | _ => .south

/-- The record of action bit i: kind `(14 - i) div 5`, position `(14 - i) mod 5` (R69, R176). -/
def touchRecord (i : Nat) : Event :=
  .touch (BitVec.ofNat 4 i) (touchKindOfIndex ((14 - i) / 5)) (touchPosOfIndex ((14 - i) % 5))

/-! ### Firmware text -/

/-- A byte of the strip set (R180). -/
def isStripped (c : Byte) : Bool := fwStripSet.contains c

/-- The length of a text without its trailing bytes of the strip set (R180). -/
def strippedLength (t : List Byte) : Nat := (t.reverse.dropWhile isStripped).length

/-! ### Acknowledgement -/

/-- `is_ack(frame, e)` on the bytes the frame register holds (R124). -/
def isAck (held : List Byte) (e : Byte) : Bool :=
  byteAt held 3 == idSystemStatus && decide (5 ≤ held.length) && byteAt held 4 == e

end Sys2Proof.Machine
end

