-- ==== Sys2Proof/Machine/Ops.lean ====
section
/-! DEFINITION. The named operations every step is built from: the primitives of R7, a model fault
(R214), the block reset (R240) and the environment's side of the ports. -/

namespace Sys2Proof.Machine

/-! ### Registers -/

/-- `frame_valid <- b`, with its copy in `STATUS.FV` (R15, R20). -/
def setFrameValid (b : Bool) (s : State) : State :=
  { s with frameValid := b, status := setStatusFv b s.status }

/-- `STATUS.XFER <- x` (R20). -/
def setXfer (x : Xfer) (s : State) : State :=
  { s with status := setStatusXfer x s.status }

/-- `p_tries <- n`, with its copy in `STATUS.TRIES` (R17, R20). -/
def setTries (n : Byte) (s : State) : State :=
  { s with pTries := n, status := setStatusTries n s.status }

/-- `seq <- q` (R7, R12). -/
def goto (q : Seq) (s : State) : State := { s with seq := q }

/-- `complete(res)`: RES, busy and seq in the calling step (R7, R20). -/
def complete (r : Res) (s : State) : State :=
  { s with status := setStatusRes r s.status, busy := false, seq := .idle }

/-- `emit` for each record in order, then `STATUS.EVCNT <- length(recs)` (R140, R170). -/
def emitAll (recs : List Event) (s : State) : State :=
  { s with evq := s.evq ++ recs, status := setStatusEvcnt recs.length s.status }

/-- The bytes the frame register holds: the first `frame_len` of them (R16). -/
def heldBytes (s : State) : List Byte := s.frame.toList.take s.frameLen.val

/-- `STATUS.XFER` as an outcome (R20). -/
def xferOf (s : State) : Xfer := statusXfer s.status

/-! ### Faults and reset -/

/-- `raise Fault(f)`, the one way a model fault is taken: the sticky bit, RES = FAULTED, HALT = 1 and
`seq = HALTED`; busy stays as it is, so the command never completes (R214). -/
def raiseFault (f : ModelFault) (s : State) : State :=
  { s with
    fault := setFaultBit f s.fault
    status := setStatusHalt (setStatusRes .faulted s.status)
    seq := .halted }

/-- A block reset: every register at its reset value, from any state. It is also the only way out
of HALTED. The Device, the moves to come and the answers to come are not the block's (R240, R241). -/
def blockReset (s : State) : State := { State.reset with env := s.env }

/-! ### The line, the bus and the timer -/

/-- `ts_level()`: the Device's answer to this sample, a free draw (R50, R52; log entry 1). -/
def sampleLine (s : State) : Level × State :=
  match s.env.lineDraws with
  | l :: rest => (l, { s with env := { s.env with lineDraws := rest } })
  | [] =>
    (Config.lineLevel s.env.drawNo, { s with env := { s.env with drawNo := s.env.drawNo + 1 } })

/-- `MemRead(0x00, 32)`: the Bus's single answer, a free draw (R44, R46; log entry 1). -/
def memRead (s : State) : ReadAnswer × State :=
  match s.env.readDraws with
  | r :: rest => (r, { s with env := { s.env with readDraws := rest } })
  | [] =>
    (Config.readAnswer s.env.drawNo, { s with env := { s.env with drawNo := s.env.drawNo + 1 } })

/-- The Bus's single answer to a block write, a free draw (R45; log entry 1). -/
def writeAnswer (s : State) : WriteAnswer × State :=
  match s.env.writeDraws with
  | r :: rest => (r, { s with env := { s.env with writeDraws := rest } })
  | [] =>
    (Config.writeAnswer s.env.drawNo, { s with env := { s.env with drawNo := s.env.drawNo + 1 } })

/-- `MemWrite(0x10, 15, v)` by the lifecycle controller: all 15 bytes reach the Device, or the write
fails and none does (R45, R46). No register of the block changes. -/
def memWrite (block : Block) (s : State) : State :=
  match writeAnswer s with
  | (.ok, s') => { s' with env := { s'.env with devBlock := some block, hostWrite := some .ok } }
  | (.busError, s') => { s' with env := { s'.env with hostWrite := some .busError } }

/-- `wait_tick()`: the Timer's TICK, taken, or nothing when none is being delivered (R7, R125). -/
def waitTick (s : State) : Option State :=
  match s.env.inputs with
  | .tick :: rest => some { s with env := { s.env with inputs := rest } }
  | _ => none

/-! ### The command port -/

/-- The Commander may write CMD (R18). -/
def commanderReady (s : State) : Bool := !s.busy && s.seq == .idle

/-- The Commander's write of CMD, which sets busy (R18, R19). -/
def acceptCommand (w : Word) (s : State) : State := { s with cmd := w, busy := true }

/-! ### The event port -/

/-- The Consumer may read `evq`: in IDLE, after a command has completed and until the next dispatch
empties it, also while that command already waits in CMD (R22, R204); and in HALTED, where an illegal
word has left the records of the command before it (R82). In every other state a command is past its
dispatch and has not completed (log entry 25). -/
def consumerReady (s : State) : Bool := s.seq == .idle || s.seq == .halted

/-- The Consumer takes the records: a read of `evq`, which leaves every register as it is (R22, R23). -/
def takeEvents (s : State) : State :=
  { s with env := { s.env with consumerReads := s.env.consumerReads ++ [s.evq] } }

/-- The effect of a legal dispatch before the command's own first step: `evq` emptied, XFER, EVCNT and
TRIES cleared; `frame`, `frame_valid`, `ts_mode` and `p_tries` are kept (R82; log entry 22). -/
def dispatchTo (q : Seq) (s : State) : State :=
  { s with
    evq := []
    status := setStatusTries 0 (setStatusEvcnt 0 (setStatusXfer .none s.status))
    seq := q }

end Sys2Proof.Machine
end

