-- ==== Sys2Proof/Machine/Blocks.lean ====
section
/-! DEFINITION. The meaning of the CMDBLOCK row: the lifecycle controller's block write (R45, R76). -/

namespace Sys2Proof.Machine

/-- The 15 bytes of a block as a vector; a list of another length has none. -/
def blockOfList (b : List Byte) : Block := Vector.ofFn fun i => byteAt b i.val

/-- SET_RUNTIME_BLOCK (R45, R46, R76): the block is written to device register 0x10, or the write
fails. The block's own registers do not change. `step` runs it only while busy = 0 (R49). -/
def execSetRuntimeBlock (argAddr : Byte) (arg0 arg1 : BitVec 32) (s : State) : Out :=
  .next (memWrite (blockOfList (blockBytes argAddr arg0 arg1)) s)

end Sys2Proof.Machine
end

