-- ==== Sys2Proof/Machine/Evenc.lean ====
section
/-! DEFINITION. EVENC, the sensor-event encoder: the records of one frame as pure functions of its
fields (spec/43_event_encoder.md). -/

namespace Sys2Proof.Machine

/-- One normalized axis value as the record holds it: 14 bits (R86, R173). -/
def normField (t : TieMode) (v : BitVec 16) : BitVec 14 := BitVec.ofNat 14 (normalizeAxis t v)

/-- `Pos(b)`: gated by `cm[4]` and `si[0]` (R172). -/
def posRecords (t : TieMode) (f : SensorFields) : List Event :=
  if f.configmask.getLsbD 4 && f.sysinfo.getLsbD 0 then
    [.position f.x f.y f.z (normField t f.x) (normField t f.y) (normField t f.z)]
  else []

/-- `Ges(b)`: gated by `cm[1]` and a non-zero class id (R174, R175). -/
def gesRecords (p : GestureUnmapped) (f : SensorFields) : List Event :=
  if f.configmask.getLsbD 1 && f.gesture != 0 then
    match gestureTag f.gesture with
    | some tag => [.gesture f.gesture tag]
    | none => unmappedGesture p f.gesture
  else []

/-- `Tch(b)`: gated by `cm[2]` and a non-zero action field (R176, R177). -/
def tchRecords (f : SensorFields) : List Event :=
  if f.configmask.getLsbD 2 then
    match highestSet f.touch with
    | some i => [touchRecord i]
    | none => []
  else []

/-- `Awl(b)`: gated by `cm[3]` and `si[1]` (R178). -/
def awlRecords (f : SensorFields) : List Event :=
  if f.configmask.getLsbD 3 && f.sysinfo.getLsbD 1 then [.airwheel f.airwheel] else []

/-- `Enc_sensor(b)`: POSITION, GESTURE, TOUCH, AIRWHEEL, in this order (R171). -/
def encSensor (p : Params) (f : SensorFields) : List Event :=
  posRecords p.tie f ++ gesRecords p.unmapped f ++ tchRecords f ++ awlRecords f

/-- `Enc_fw` on the text `b[12..L)` (R180). -/
def encFirmware (text : List Byte) : Event :=
  .firmware text (BitVec.ofNat 5 (strippedLength text))

end Sys2Proof.Machine
end

