-- ==== Sys2Proof/Machine/Fdec.lean ====
section
/-! DEFINITION. FDEC, the frame decoder: the pure function `Dec` and the D_DECODE step
(spec/42_decoder.md). -/

namespace Sys2Proof.Machine

/-- What `Dec` returns: a class with its records, or ShortSensor (R141). -/
inductive DecResult where
  | decoded (cls : Res) (recs : List Event)
  | shortSensor
  deriving DecidableEq, Repr

/-! ### The class and the records of each form of a frame -/

/-- A class and its records. -/
abbrev Row := Res × List Event

/-- R142: no event, no error. -/
def rowShort : Row := (.decShort, [])

/-- R145: informational, no event. -/
def rowSystemStatus : Row := (.decStatus, [])

/-- R146: exactly one FIRMWARE record, even when the text is empty. -/
def rowFirmwareVersion (text : List Byte) : Row := (.decFirmware, [encFirmware text])

/-- R143: zero to four records. -/
def rowSensorData (p : Params) (f : SensorFields) : Row := (.decSensor, encSensor p f)

/-- R63, R147: read as unknown. -/
def rowRequestMsg : Row := (.decUnknown, [])

/-- R147: no event, no error. -/
def rowUnknown : Row := (.decUnknown, [])

/-- A row as a result of `Dec`. -/
def ofRow (r : Row) : DecResult := .decoded r.1 r.2

/-- `Dec(L, b)` with L the length of b (R141). The length is tested first, then the identifier, and
ShortSensor only for identifier 0x91. -/
def dec (p : Params) (b : List Byte) : DecResult :=
  if b.length < 4 then ofRow rowShort
  else if byteAt b 3 = idSensorData then
    if b.length < 26 then .shortSensor else ofRow (rowSensorData p (sensorFields b))
  else if byteAt b 3 = idSystemStatus then ofRow rowSystemStatus
  else if byteAt b 3 = idFirmwareVersion then ofRow (rowFirmwareVersion (b.drop fwTextOffset))
  else if byteAt b 3 = idRequestMsg then ofRow rowRequestMsg
  else ofRow rowUnknown

/-! ### The D_DECODE step -/

/-- The end of D_DECODE: the frame is dropped, the records are emitted in order, and the command
completes with `res` (R140). -/
def deliver (res : Res) (recs : List Event) (s : State) : State :=
  complete res (emitAll recs (setFrameValid false s))

/-- D_DECODE (R140). `done` turns the class into the result of the running command. -/
def dDecode (done : Res → Res) (s : State) : Out :=
  if s.frameValid then
    match dec machineParams (heldBytes s) with
    | .shortSensor => .next (raiseFault .shortSensor s)
    | .decoded cls recs => .next (deliver (done cls) recs s)
  else .next (raiseFault .decodeEmpty s)

/-- What DECODE completes with: the class (R140). -/
def doneDecode (cls : Res) : Res := cls

/-- What POLL_ONCE completes with (R140, R200). -/
def donePollOnce (_cls : Res) : Res := .pollDone

/-- The command that runs D_DECODE, from `CMD.OP`: only DECODE and POLL_ONCE do (R140). -/
def runningDone (w : Word) : Option (Res → Res) :=
  match decodeCommand w with
  | .tryReadFrame => none
  | .awaitStatus _ _ => none
  | .decode => some doneDecode
  | .pollOnce => some donePollOnce
  | .illegalCommand _ => none
  | .frameShort _ => none
  | .frameSystemStatus _ => none
  | .frameFirmwareVersion _ => none
  | .frameSensorData _ => none
  | .frameRequestMsg => none
  | .frameUnknown _ => none
  | .setRuntimeBlock _ _ _ => none

/-- The D_DECODE step on a frame whose form is already known: the shared part of the meanings of the
six FRAME rows. With no frame held it is Fault(F_DECODE_EMPTY), as in `dDecode`. -/
def decodeRow (row : Row) (s : State) : Out :=
  match s.seq with
  | .halted => .fault .halted
  | .dDecode =>
    match runningDone s.cmd with
    | none => .fault .strayStep
    | some done =>
      if s.frameValid then .next (deliver (done row.1) row.2 s)
      else .next (raiseFault .decodeEmpty s)
  | _ => .fault .strayStep

end Sys2Proof.Machine
end

