-- ==== Sys2Proof/Machine/Sap.lean ====
section
/-! DEFINITION. SAP, the status-acknowledgement poller: the steps P_START, P_ATTEMPT, P_MATCH and
P_INTERVAL (spec/41_status_wait.md). -/

namespace Sys2Proof.Machine

/-- P_START (R121, R129): load the wait's registers; a budget of 0 is a timeout at once. -/
def pStart (exp maxt : Byte) (s : State) : State :=
  let s' := setTries 0 { s with pExpected := exp, pMax := maxt }
  if maxt = 0 then complete .timeout s' else goto .pAttempt s'

/-- P_ATTEMPT (R122): count one attempt, start the transport. -/
def pAttempt (s : State) : Out :=
  if s.pTries < s.pMax then .next (goto .tReady (setTries (s.pTries + 1) s))
  else .fault .attemptOverBudget

/-- P_MATCH (R123): a BusError first, then a match, then the budget (R217). -/
def pMatch (s : State) : State :=
  if xferOf s = .busError then complete .busError s
  else if xferOf s = .frame ∧ isAck (heldBytes s) s.pExpected = true then
    complete .ack (setFrameValid false s)
  else if s.pTries = s.pMax then complete .timeout (setFrameValid false s)
  else goto .pInterval (setFrameValid false s)

/-- P_INTERVAL (R125): the step out is taken together with a TICK; without one the sequencer holds. -/
def pInterval (s : State) : State :=
  match waitTick s with
  | some s' => goto .pAttempt s'
  | none => s

end Sys2Proof.Machine
end

