-- ==== Sys2Proof/Machine/Tseq.lean ====
section
/-! DEFINITION. TSEQ, the frame-transport sequencer: ready, freeze, drain, release, and the exit of
each command that uses it (spec/40_transport.md). -/

namespace Sys2Proof.Machine

/-- T_READY (R102): drop the old frame, sample the line once; high exits with NO_FRAME, low goes on
to the freeze. -/
def tReady (exit : State → Out) (s : State) : Out :=
  match s.tsMode with
  | .outLow => .fault .sampleWhileDriven
  | .inPu =>
    match sampleLine (setFrameValid false s) with
    | (.high, s') => exit (setXfer .noFrame s')
    | (.low, s') => .next (goto .tFreeze s')

/-- T_FREEZE (R103). -/
def tFreeze (s : State) : State := goto .tDrain { s with tsMode := .outLow }

/-- T_DRAIN (R104): one block read; the frame register is written whole, or not at all. -/
def tDrain (s : State) : State :=
  match memRead s with
  | (.ok b, s') =>
    goto .tRelease (setXfer .frame (setFrameValid true { s' with frame := b, frameLen := 32 }))
  | (.busError, s') => goto .tRelease (setXfer .busError s')

/-- T_RELEASE (R105): unconditional. -/
def tRelease (exit : State → Out) (s : State) : Out := exit { s with tsMode := .inPu }

/-- The TSEQ exit of TRY_READ_FRAME (R106). -/
def exitTryReadFrame (s : State) : Out :=
  match xferOf s with
  | .frame => .next (complete .frame s)
  | .noFrame => .next (complete .noFrame s)
  | .busError => .next (complete .busError s)
  | .none => .fault .noOutcome

/-- The TSEQ exit of AWAIT_STATUS (R106). -/
def exitAwaitStatus (s : State) : Out := .next (goto .pMatch s)

/-- The TSEQ exit of POLL_ONCE (R106, R200, R201). -/
def exitPollOnce (s : State) : Out :=
  match xferOf s with
  | .frame => .next (goto .dDecode s)
  | _ => .next (complete .pollDone s)

end Sys2Proof.Machine
end

