-- ==== Sys2Proof/Machine/Commands.lean ====
section
/-! DEFINITION. The meanings of the five command rows: the step a command takes in each state of the
sequencer. A state that the command never enters is `strayStep`; in HALTED no step is enabled. -/

namespace Sys2Proof.Machine

/-- TRY_READ_FRAME (R100): dispatch, then TSEQ. -/
def execTryReadFrame (s : State) : Out :=
  match s.seq with
  | .idle => .next (dispatchTo .tReady s)
  | .tReady => tReady exitTryReadFrame s
  | .tFreeze => .next (tFreeze s)
  | .tDrain => .next (tDrain s)
  | .tRelease => tRelease exitTryReadFrame s
  | .pStart => .fault .strayStep
  | .pAttempt => .fault .strayStep
  | .pMatch => .fault .strayStep
  | .pInterval => .fault .strayStep
  | .dDecode => .fault .strayStep
  | .halted => .fault .halted

/-- AWAIT_STATUS exp, maxt (R120): dispatch, P_START, then attempts separated by TICKs. -/
def execAwaitStatus (exp maxt : Byte) (s : State) : Out :=
  match s.seq with
  | .idle => .next (dispatchTo .pStart s)
  | .tReady => tReady exitAwaitStatus s
  | .tFreeze => .next (tFreeze s)
  | .tDrain => .next (tDrain s)
  | .tRelease => tRelease exitAwaitStatus s
  | .pStart => .next (pStart exp maxt s)
  | .pAttempt => pAttempt s
  | .pMatch => .next (pMatch s)
  | .pInterval => .next (pInterval s)
  | .dDecode => .fault .strayStep
  | .halted => .fault .halted

/-- DECODE (R140): dispatch, then D_DECODE. -/
def execDecode (s : State) : Out :=
  match s.seq with
  | .idle => .next (dispatchTo .dDecode s)
  | .dDecode => dDecode doneDecode s
  | .tReady => .fault .strayStep
  | .tFreeze => .fault .strayStep
  | .tDrain => .fault .strayStep
  | .tRelease => .fault .strayStep
  | .pStart => .fault .strayStep
  | .pAttempt => .fault .strayStep
  | .pMatch => .fault .strayStep
  | .pInterval => .fault .strayStep
  | .halted => .fault .halted

/-- POLL_ONCE (R200): dispatch, TSEQ, then D_DECODE if a frame was read. -/
def execPollOnce (s : State) : Out :=
  match s.seq with
  | .idle => .next (dispatchTo .tReady s)
  | .tReady => tReady exitPollOnce s
  | .tFreeze => .next (tFreeze s)
  | .tDrain => .next (tDrain s)
  | .tRelease => tRelease exitPollOnce s
  | .dDecode => dDecode donePollOnce s
  | .pStart => .fault .strayStep
  | .pAttempt => .fault .strayStep
  | .pMatch => .fault .strayStep
  | .pInterval => .fault .strayStep
  | .halted => .fault .halted

/-- ILLEGAL_COMMAND (R81, R82): Fault(F_ILLEGAL_COMMAND) at dispatch, before `evq`, XFER, EVCNT and
TRIES are cleared. CMD keeps the word (R213). -/
def execIllegalCommand (_word : Word) (s : State) : Out :=
  match s.seq with
  | .idle => .next (raiseFault .illegalCommand s)
  | .halted => .fault .halted
  | _ => .fault .strayStep

end Sys2Proof.Machine
end

