-- ==== Sys2Proof/Machine/Frames.lean ====
section
/-! DEFINITION. The meanings of the six FRAME rows: the D_DECODE step on a frame of that form, under
the running command (R140). -/

namespace Sys2Proof.Machine

/-- FRAME_SHORT (R142). -/
def execFrameShort (_len : BitVec 4) (s : State) : Out := decodeRow rowShort s

/-- FRAME_SYSTEM_STATUS (R145): `payload[0]` is compared by SAP only. -/
def execFrameSystemStatus (_commandId : Option Byte) (s : State) : Out :=
  decodeRow rowSystemStatus s

/-- FRAME_FIRMWARE_VERSION (R146, R180). -/
def execFrameFirmwareVersion (text : List Byte) (s : State) : Out :=
  decodeRow (rowFirmwareVersion text) s

/-- FRAME_SENSOR_DATA (R143, R171). -/
def execFrameSensorData (fields : SensorFields) (s : State) : Out :=
  decodeRow (rowSensorData machineParams fields) s

/-- FRAME_REQUEST_MSG (R63, R147). -/
def execFrameRequestMsg (s : State) : Out := decodeRow rowRequestMsg s

/-- FRAME_UNKNOWN (R147). -/
def execFrameUnknown (_identifier : Byte) (s : State) : Out := decodeRow rowUnknown s

end Sys2Proof.Machine
end

