-- ==== Sys2Proof/Machine/Dispatch.lean ====
section
/-! DEFINITION. One arm per instruction of the opcode table. -/

namespace Sys2Proof.Machine

def exec (i : Instr) (s : State) : Host.Outcome State Fault Refusal :=
  match i with
  | .tryReadFrame => Sys2Proof.Machine.execTryReadFrame s
  | .awaitStatus exp maxt => Sys2Proof.Machine.execAwaitStatus exp maxt s
  | .decode => Sys2Proof.Machine.execDecode s
  | .pollOnce => Sys2Proof.Machine.execPollOnce s
  | .illegalCommand word => Sys2Proof.Machine.execIllegalCommand word s
  | .frameShort len => Sys2Proof.Machine.execFrameShort len s
  | .frameSystemStatus commandId => Sys2Proof.Machine.execFrameSystemStatus commandId s
  | .frameFirmwareVersion text => Sys2Proof.Machine.execFrameFirmwareVersion text s
  | .frameSensorData fields => Sys2Proof.Machine.execFrameSensorData fields s
  | .frameRequestMsg => Sys2Proof.Machine.execFrameRequestMsg s
  | .frameUnknown identifier => Sys2Proof.Machine.execFrameUnknown identifier s
  | .setRuntimeBlock argAddr arg0 arg1 => Sys2Proof.Machine.execSetRuntimeBlock argAddr arg0 arg1 s

end Sys2Proof.Machine
end

