-- ==== Sys2Proof/Machine/Sequencer.lean ====
section
/-! DEFINITION. Whose move comes next, the block's own turn, and the placing of one table word where
the next step reads it. -/

namespace Sys2Proof.Machine

/-- The moves still to come, without those already taken. -/
def withInputs (rest : List Input) (s : State) : State :=
  { s with env := { s.env with inputs := rest } }

/-- The block's turn (R8, R12). In IDLE it dispatches CMD when busy = 1 and otherwise waits for a
command (R82, R226, R240); in HALTED no step is enabled (R214); in every other state the running
command takes its step. -/
def spbTurn (s : State) : Out :=
  match s.seq with
  | .halted => .fault .halted
  | .idle => if s.busy then exec (decodeCommand s.cmd) s else .next s
  | _ => exec (decodeCommand s.cmd) s

/-- A block write by the lifecycle controller (R45). The bytes of a SET_RUNTIME block run that
instruction; other bytes are a block write all the same, and the block does not look at them. -/
def blockWriteTurn (block : Block) (s : State) : Out :=
  match decodeBlock block.toList with
  | .ok i => exec i s
  | .error _ => .next (memWrite block s)

/-- One step of the whole machine: the agent at the head of the inputs moves, or the block when no
move is listed (R5; log entry 2). A Commander that is not allowed to write, or a Consumer
that is not allowed to read, has no move and holds, so that it is the block's turn (R18, R22, R49). A TICK outside P_INTERVAL has no effect (R125). -/
def advance (s : State) : Out :=
  match s.env.inputs with
  | [] => spbTurn s
  | .spb :: rest => spbTurn (withInputs rest s)
  | .blockReset :: rest => .next (blockReset (withInputs rest s))
  | .tick :: rest => if s.seq = .pInterval then spbTurn s else .next (withInputs rest s)
  | .command w :: rest =>
    if commanderReady s then .next (acceptCommand w (withInputs rest s)) else spbTurn s
  | .blockWrite b :: rest =>
    if s.busy then spbTurn s else blockWriteTurn b (withInputs rest s)
  | .consumer :: rest =>
    if consumerReady s then .next (takeEvents (withInputs rest s)) else spbTurn s

/-- The 32 bytes of a frame window, absent bytes 0x00. -/
def windowOfList (b : List Byte) : Window := Vector.ofFn fun i => byteAt b i.val

/-- The state in which the next step reads the given bits as its instruction: a command word waits in
CMD with the sequencer in IDLE, a frame is held at D_DECODE of a DECODE, and a block is the next
write of the lifecycle controller (log entry 8). -/
def placeImage (i : Image) (s : State) : State :=
  match i with
  | .command w => { withInputs [] s with cmd := w, busy := true, seq := .idle }
  | .frame b =>
    { setFrameValid true (withInputs [] s) with
      frame := windowOfList b
      frameLen := Fin.ofNat 33 (min b.length 32)
      cmd := commandWord 3 0 0
      busy := true
      seq := .dDecode }
  | .block b => { withInputs [.blockWrite (blockOfList b)] s with busy := false, seq := .idle }

end Sys2Proof.Machine
end

