-- ==== Sys2Proof/Machine/Step.lean ====
section
/-! DEFINITION. One step of the machine, and the host's way to place one table word. -/

namespace Sys2Proof.Machine

/-- One step: the next agent's move (R5, R8). -/
def step (s : State) : Host.Outcome State Fault Refusal := advance s

/-- s with the table word w of nbits bits placed where the next step reads its instruction. -/
def State.withFetchWord (s : State) (nbits w : Nat) : State := placeImage (tableImage nbits w) s

end Sys2Proof.Machine
end

