-- ==== Sys2Proof/Machine/Assembler.lean ====
section
/-! DEFINITION. The assembler syntax of R83: one command per line, the mnemonic, then its operands
separated by commas; numbers are decimal, or hexadecimal with `0x`; a semicolon starts a comment. -/

namespace Sys2Proof.Machine

/-- Why a line is no command. -/
inductive AsmError where
  | unknownMnemonic
  | badNumber
  | operandCount
  /-- "An operand outside 0..255 is an assembler error" (R83). -/
  | operandRange
  deriving DecidableEq, Repr

/-- A blank character. -/
def isBlank (c : Char) : Bool := c == ' ' || c == '\t'

/-- The characters without blanks at either end. -/
def trimChars (cs : List Char) : List Char :=
  ((cs.dropWhile isBlank).reverse.dropWhile isBlank).reverse

/-- The pieces between the commas. -/
def splitCommas : List Char → List (List Char)
  | [] => [[]]
  | c :: cs =>
    if c = ',' then [] :: splitCommas cs
    else
      match splitCommas cs with
      | [] => [[c]]
      | p :: ps => (c :: p) :: ps

/-- The value of a digit in the given base, if it is one. -/
def digitValue (base : Nat) (c : Char) : Option Nat :=
  let n := c.toNat
  let v :=
    if 48 ≤ n ∧ n ≤ 57 then n - 48
    else if 97 ≤ n ∧ n ≤ 102 then n - 87
    else if 65 ≤ n ∧ n ≤ 70 then n - 55
    else base
  if v < base then some v else none

/-- The number a digit string stands for, most significant digit first, after the value so far. -/
def digitsValue (base : Nat) (acc : Nat) : List Char → Option Nat
  | [] => some acc
  | c :: cs =>
    match digitValue base c with
    | some v => digitsValue base (acc * base + v) cs
    | none => none

/-- A number: `0x` and hexadecimal digits, or decimal digits; at least one digit. -/
def parseNumber : List Char → Option Nat
  | [] => none
  | '0' :: 'x' :: [] => none
  | '0' :: 'x' :: ds => digitsValue 16 0 ds
  | ds => digitsValue 10 0 ds

/-- One operand: a number from 0 to 255. -/
def parseOperand (cs : List Char) : Except AsmError Byte :=
  match parseNumber cs with
  | none => .error .badNumber
  | some n => if n < 256 then .ok (BitVec.ofNat 8 n) else .error .operandRange

/-- `AWAIT_STATUS <exp>, <maxt>`, and the one pseudo-instruction `AWAIT_STATUS <exp>`, which takes the
default budget 10. -/
def assembleAwait : List (List Char) → Except AsmError Instr
  | [e] =>
    match parseOperand e with
    | .ok exp => .ok (.awaitStatus exp (BitVec.ofNat 8 Config.maxTriesDefault))
    | .error x => .error x
  | [e, m] =>
    match parseOperand e, parseOperand m with
    | .ok exp, .ok maxt => .ok (.awaitStatus exp maxt)
    | .error x, _ => .error x
    | .ok _, .error x => .error x
  | _ => .error .operandCount

/-- A command without operands. -/
def assemblePlain (i : Instr) (ops : List Char) : Except AsmError Instr :=
  if ops = [] then .ok i else .error .operandCount

/-- One line of R83. -/
def assembleLine (line : List Char) : Except AsmError Instr :=
  let text := trimChars (line.takeWhile (· != ';'))
  let name := text.takeWhile (fun c => !isBlank c)
  let ops := trimChars (text.dropWhile (fun c => !isBlank c))
  if name = "TRY_READ_FRAME".toList then assemblePlain .tryReadFrame ops
  else if name = "AWAIT_STATUS".toList then assembleAwait ((splitCommas ops).map trimChars)
  else if name = "DECODE".toList then assemblePlain .decode ops
  else if name = "POLL_ONCE".toList then assemblePlain .pollOnce ops
  else .error .unknownMnemonic

end Sys2Proof.Machine
end

