-- ==== Sys2Proof/Machine/Lifecycle.lean ====
section
/-! DEFINITION. Interface reference for the external lifecycle controller: its four configuration
blocks and what it makes of the answers (R77, R78, R211). The controller itself is out of scope (R3). -/

namespace Sys2Proof.Machine

/-- The four configuration steps, in order (R77). -/
inductive ConfigStep where
  | airwheel
  | gestures
  | sensorData
  | autoCalibration
  deriving DecidableEq, Repr

/-- `arg0` and `arg1` of a step. Step 3's `arg1` is not in the source, so it is an argument (R77). -/
def configArgs (arg1Step3 : BitVec 32) : ConfigStep → BitVec 32 × BitVec 32
  | .airwheel => (0x20, 0x20)
  | .gestures => (0x7F, 0x7F)
  | .sensorData => (0x1F, arg1Step3)
  | .autoCalibration => (0x00, 0x1F)

/-- The block a step writes. `arg_addr` is not in the source, so it is an argument (R76 to R78). -/
def configBlock (argAddr : Byte) (arg1Step3 : BitVec 32) (k : ConfigStep) : Instr :=
  .setRuntimeBlock argAddr (configArgs arg1Step3 k).1 (configArgs arg1Step3 k).2

/-- The wait the controller issues after each write (R78). -/
def configWait : Instr := .awaitStatus idSetRuntime (BitVec.ofNat 8 Config.maxTriesDefault)

/-- Why `configure()` fails (R211). -/
inductive ConfigFailure where
  /-- `ConfigurationTimeout`, naming the step. -/
  | configurationTimeout (k : ConfigStep)
  /-- `BusError`, from the write or from the wait. -/
  | busError
  /-- The wait's RES is none of those an AWAIT_STATUS completes with (R84): the controller does not
  go on (R242). -/
  | noAcknowledgement
  deriving DecidableEq, Repr

/-- Whether the controller goes on after a step, from the write's answer and the wait's result (R211,
R242). -/
def configStepResult (k : ConfigStep) (w : WriteAnswer) (r : Res) : Except ConfigFailure Unit :=
  match w with
  | .busError => .error .busError
  | .ok =>
    match r with
    | .ack => .ok ()
    | .timeout => .error (.configurationTimeout k)
    | .busError => .error .busError
    | _ => .error .noAcknowledgement

/-- `configure()` over the answers of its steps: the first failure ends it (R211). -/
def configure : List (ConfigStep × WriteAnswer × Res) → Except ConfigFailure Unit
  | [] => .ok ()
  | (k, w, r) :: rest =>
    match configStepResult k w r with
    | .ok () => configure rest
    | .error e => .error e

end Sys2Proof.Machine
end

