-- ==== Sys2Proof/Machine/Ports.lean ====
section
/-! DEFINITION. What the Commander and the Consumer read (R23). A read changes nothing, so it is a view
of the state and no step. -/

namespace Sys2Proof.Machine

/-- The Commander reads STATUS (R20). -/
def commanderStatus (s : State) : Word := s.status

/-- The Commander reads FAULT (R21). -/
def commanderFault (s : State) : Word := s.fault

/-- The Commander reads busy (R19). -/
def commanderBusy (s : State) : Bool := s.busy

/-- The Commander reads `frame`: while `frame_valid = 0` it has no value (R14, R23, 93 I10). -/
def commanderFrame (s : State) : Option Window := if s.frameValid then some s.frame else none

/-- The Commander reads `frame_len`, under the same condition as `frame` (R16, R23). -/
def commanderFrameLen (s : State) : Option (Fin 33) := if s.frameValid then some s.frameLen else none

/-- The Consumer reads `evq` (R22, R23): from the completion of a command until the next dispatch
empties it (R204). While a command is past its dispatch there is no read. -/
def consumerEvents (s : State) : Option (List Event) :=
  if consumerReady s then some s.evq else none

/-- The level the Device sees driven on the line, if the block drives it (R11, R25). -/
def drivenLevel (s : State) : Option Level :=
  match s.tsMode with
  | .inPu => none
  | .outLow => some .low

end Sys2Proof.Machine
end

