-- ==== Sys2Proof/Safety.lean ====
section
/-! DEFINITION. What a good state is: the invariants of R26, the copies STATUS keeps (R20), and what
the step rules rely on. Every clause is decidable. -/

namespace Sys2Proof.Machine

/-- TSEQ is at work on the line: the states in which the line is driven (R26.1). -/
abbrev lineHeld (q : Seq) : Prop := q = .tDrain ∨ q = .tRelease

/-- A TSEQ state (R12). -/
abbrev isTseq (q : Seq) : Prop := q = .tReady ∨ q = .tFreeze ∨ q = .tDrain ∨ q = .tRelease

/-- A SAP state (R12). -/
abbrev isSap (q : Seq) : Prop := q = .pStart ∨ q = .pAttempt ∨ q = .pMatch ∨ q = .pInterval

/-- The running command is an AWAIT_STATUS. -/
def isAwait (i : Instr) : Bool :=
  match i with
  | .tryReadFrame => false
  | .awaitStatus _ _ => true
  | .decode => false
  | .pollOnce => false
  | .illegalCommand _ => false
  | .frameShort _ => false
  | .frameSystemStatus _ => false
  | .frameFirmwareVersion _ => false
  | .frameSensorData _ => false
  | .frameRequestMsg => false
  | .frameUnknown _ => false
  | .setRuntimeBlock _ _ _ => false

/-- The sequencer states a command passes through (R100, R120, R140, R200). -/
def entersSeq (i : Instr) (q : Seq) : Bool :=
  match i with
  | .tryReadFrame => decide (isTseq q)
  | .awaitStatus _ _ => decide (isTseq q ∨ isSap q)
  | .decode => decide (q = .dDecode)
  | .pollOnce => decide (isTseq q ∨ q = .dDecode)
  | .illegalCommand _ => false
  | .frameShort _ => false
  | .frameSystemStatus _ => false
  | .frameFirmwareVersion _ => false
  | .frameSensorData _ => false
  | .frameRequestMsg => false
  | .frameUnknown _ => false
  | .setRuntimeBlock _ _ _ => false

/-- The bits of STATUS that read 0: [7:6], [15:11] and [30:25] (R20). -/
def statusReserved : Word := 0x7E00F8C0

/-- R26.1: `ts_mode = OUT_LOW` exactly when `seq` is T_DRAIN or T_RELEASE. -/
abbrev LineInv (s : State) : Prop := s.tsMode = .outLow ↔ lineHeld s.seq

/-- R26.2: the block never halts or waits for a command with the line driven. -/
abbrev ReleasedInv (s : State) : Prop := s.seq = .idle ∨ s.seq = .halted → s.tsMode = .inPu

/-- R26.3: `busy = 0` implies `seq = IDLE`. -/
abbrev BusyInv (s : State) : Prop := s.busy = false → s.seq = .idle

/-- R26.4: `frame_valid = 1` implies `frame_len = 32`. -/
abbrev FrameLenInv (s : State) : Prop := s.frameValid = true → s.frameLen = 32

/-- R26.5: `p_tries ≤ p_max` in a SAP or TSEQ state of an AWAIT_STATUS command. -/
abbrev TriesInv (s : State) : Prop :=
  isAwait (decodeCommand s.cmd) = true → isTseq s.seq ∨ isSap s.seq → s.pTries ≤ s.pMax

/-- The five invariants of R26. -/
abbrev R26 (s : State) : Prop :=
  LineInv s ∧ ReleasedInv s ∧ BusyInv s ∧ FrameLenInv s ∧ TriesInv s

/-- The budget at each step: never over it, and with an attempt left before P_ATTEMPT (R121 to R123).
Over all states it rests on the model's reset values of `p_tries` and `p_max` (log entry 3). -/
abbrev BudgetInv (s : State) : Prop :=
  s.pTries ≤ s.pMax ∧ (s.seq = .pAttempt ∨ s.seq = .pInterval → s.pTries < s.pMax)

/-- The sequencer is in a state of the running command. -/
abbrev SeqInv (s : State) : Prop :=
  s.seq = .idle ∨ s.seq = .halted ∨ entersSeq (decodeCommand s.cmd) s.seq = true

/-- What TSEQ leaves in XFER and `frame_valid` on its way (R102 to R106), and that POLL_ONCE reaches
D_DECODE with a frame only (R200). -/
abbrev TransportInv (s : State) : Prop :=
  (s.seq = .tFreeze ∨ s.seq = .tDrain → s.frameValid = false) ∧
  (s.seq = .tRelease ∨ s.seq = .pMatch →
    xferOf s ≠ .none ∧ (xferOf s = .frame ↔ s.frameValid = true)) ∧
  (s.seq = .tRelease → xferOf s ≠ .noFrame) ∧
  (s.seq = .dDecode → decodeCommand s.cmd = .pollOnce → s.frameValid = true)

/-- The fields of STATUS agree with what they report (R20, R84). -/
abbrev StatusInv (s : State) : Prop :=
  statusFv s.status = s.frameValid ∧
  (statusHalt s.status = true ↔ s.seq = .halted) ∧
  statusEvcnt s.status = BitVec.ofNat 3 s.evq.length ∧
  (isAwait (decodeCommand s.cmd) = true →
    s.seq = .pAttempt ∨ isTseq s.seq ∨ s.seq = .pMatch ∨ s.seq = .pInterval →
    statusTries s.status = s.pTries) ∧
  s.status &&& statusReserved = 0 ∧
  (statusRes s.status < 12 ∨ (statusRes s.status = 15 ∧ s.seq = .halted))

/-- FAULT is 0 but in HALTED, where one of the two reachable faults stands and the command never
completes (R21, R144, R214). -/
abbrev FaultInv (s : State) : Prop :=
  (s.seq ≠ .halted ∧ s.fault = 0) ∨
  (s.seq = .halted ∧ s.busy = true ∧ (s.fault = 1 ∨ s.fault = 2) ∧ statusRes s.status = 15)

/-- `evq` holds at most 4 records, and none while a command is past its dispatch (R22, R87). -/
abbrev EvqInv (s : State) : Prop :=
  s.evq.length ≤ 4 ∧ (s.seq ≠ .idle → s.seq ≠ .halted → s.evq = [])

/-- A good state: every reachable state is one. -/
abbrev GoodState (s : State) : Prop :=
  R26 s ∧ BudgetInv s ∧ SeqInv s ∧ TransportInv s ∧ StatusInv s ∧ FaultInv s ∧ EvqInv s

/-! ### The terms of the claims -/

/-- The commands that run TSEQ (R101). -/
def usesTransport (i : Instr) : Bool :=
  match i with
  | .tryReadFrame => true
  | .awaitStatus _ _ => true
  | .decode => false
  | .pollOnce => true
  | .illegalCommand _ => false
  | .frameShort _ => false
  | .frameSystemStatus _ => false
  | .frameFirmwareVersion _ => false
  | .frameSensorData _ => false
  | .frameRequestMsg => false
  | .frameUnknown _ => false
  | .setRuntimeBlock _ _ _ => false

/-- The state after a D_DECODE that completes with `res` and the records `recs` (R140). -/
def delivered (res : Res) (recs : List Event) (s : State) : State :=
  { s with
    frameValid := false
    busy := false
    seq := .idle
    evq := s.evq ++ recs
    status := setStatusRes res (setStatusEvcnt recs.length (setStatusFv false s.status)) }

/-- The state after a model fault on bit n of FAULT (R214). -/
def faulted (n : Nat) (s : State) : State :=
  { s with
    fault := s.fault ||| (1#32 <<< n)
    seq := .halted
    status := setStatusHalt (setStatusRes .faulted s.status) }

/-- What the environment does in one attempt of a wait (R122): the line is high, or it is low and
the read answers a frame or fails. -/
inductive Attempt where
  | high
  | frame (b : Window)
  | busError
  deriving DecidableEq, Repr

/-- The block's steps in one attempt: P_ATTEMPT, T_READY, P_MATCH, and between them T_FREEZE, T_DRAIN,
T_RELEASE when the line is low (R101, R120). -/
def Attempt.steps : Attempt → Nat
  | .high => 3
  | .frame _ => 6
  | .busError => 6

/-- The level the attempt's one sample reads. -/
def Attempt.level : Attempt → Level
  | .high => .high
  | .frame _ => .low
  | .busError => .low

/-- The answers the attempt's reads get: at most one. -/
def Attempt.reads : Attempt → List ReadAnswer
  | .high => []
  | .frame b => [.ok b]
  | .busError => [.busError]

/-- The attempt reads the acknowledgement of command id e: identifier 0x15 and `payload[0] = e`
(R72, R124). -/
def Attempt.acknowledges (e : Byte) : Attempt → Bool
  | .high => false
  | .frame b => b[3] == 0x15#8 && b[4] == e
  | .busError => false

/-- The attempt neither acknowledges e nor fails. -/
def Attempt.goesOn (e : Byte) (a : Attempt) : Bool := !a.acknowledges e && a != .busError

/-- The moves of a wait over the given attempts: the block's steps, with one TICK between two
attempts (R125). -/
def waitInputs : List Attempt → List Input
  | [] => []
  | [a] => List.replicate a.steps .spb
  | a :: b :: rest => List.replicate a.steps .spb ++ .tick :: waitInputs (b :: rest)

/-- The environment's answers are those of the given attempts, then whatever comes after. -/
def waitAnswers (attempts : List Attempt) (levels : List Level) (reads : List ReadAnswer)
    (s : State) : Prop :=
  s.env.lineDraws = attempts.map Attempt.level ++ levels ∧
  s.env.readDraws = attempts.flatMap Attempt.reads ++ reads

end Sys2Proof.Machine
end

