-- ==== Sys2Proof/Certificates/Slice0/Obligations.lean ====
section
/-! DEFINITION. The statements for the provers. -/

open Sys2Proof Sys2Proof.Machine

/-! ### Reset and the invariants -/

/-- R240: the reset values the spec gives. (The registers to which it gives none hold the model's
values, log entry 3; nothing here is about them.) -/
def Obligations.ResetHoldsSpecValues : Prop :=
  State.reset.tsMode = .inPu ∧ State.reset.seq = .idle ∧ State.reset.frameValid = false ∧
  State.reset.busy = false ∧ State.reset.status = 0 ∧ State.reset.fault = 0 ∧
  State.reset.evq = []

/-- R240: a block reset in any state ends the running command and gives every register its reset
value; no answer is read for a transaction it cut short; then the block waits in IDLE (R226). The model's
choices: the answers and moves still listed stay listed (log entries 2 and 18), and a block that waits
steps to the same state (log entry 10). -/
def Obligations.BlockResetFromAnyState : Prop :=
  ∀ (s : State) (rest : List Input), s.env.inputs = .blockReset :: rest →
    ∃ t, step s = .next t ∧
      t.tsMode = .inPu ∧ t.seq = .idle ∧ t.frameValid = false ∧ t.busy = false ∧
      t.status = 0 ∧ t.fault = 0 ∧ t.evq = [] ∧ t.env = { s.env with inputs := rest } ∧
      (∀ s' : State, s'.seq = .idle → s'.busy = false → s'.env.inputs = [] → step s' = .next s')

/-- The invariants hold right after reset (R26, R240; the clause on `p_tries` and `p_max` rests on
the model's reset values, log entry 3). -/
def Obligations.ResetStateIsGood : Prop := GoodState State.reset

/-- Every step keeps the invariants: those of R26, the agreement of STATUS with what it copies (R20),
the reserved bits (R20, R21), the bound on `evq` (R22, R87), and that F_SHORT_SENSOR is never raised
(R144). The clause on `p_tries` and `p_max` outside a wait rests on the model's reset values (log
entry 3). -/
def Obligations.StepKeepsGoodState : Prop :=
  ∀ s t : State, GoodState s → step s = .next t → GoodState t

/-- From a good state the machine never stops but in HALTED: none of the model's stops for impossible
states can be reached (R26, R101, R122; log entry 11). -/
def Obligations.GoodStateAlwaysSteps : Prop :=
  ∀ s : State, GoodState s → s.seq ≠ .halted → ∃ t, step s = .next t

/-! ### Encodings -/

/-- The decoder reads back what the encoder writes, for every well-formed instruction. -/
def Obligations.DecodeAfterEncode : Prop :=
  ∀ i : Instr, i.wellFormed = true → decode (encode i) = .ok i

/-- Every 32-bit word is the encoding of the well-formed instruction it decodes to. -/
def Obligations.EncodeAfterDecodeCommand : Prop :=
  ∀ w : Word, encode (decodeCommand w) = .command w ∧ (decodeCommand w).wellFormed = true

/-- R81: a word is illegal exactly when its OP is 0x0 or 0x5 to 0xF or one of its must-be-0 bits is
set; the other words match the table's rows. -/
def Obligations.IllegalWordsAreTheRest : Prop :=
  ∀ w : Word,
    (decodeCommand w = .illegalCommand w ↔
      (w.extractLsb' 0 4 = 0 ∨ 5 ≤ (w.extractLsb' 0 4).toNat) ∨
      w.extractLsb' 4 4 ≠ 0 ∨ w.extractLsb' 24 8 ≠ 0 ∨
      (w.extractLsb' 0 4 ≠ 2 ∧ (w.extractLsb' 8 8 ≠ 0 ∨ w.extractLsb' 16 8 ≠ 0))) ∧
    (decodeCommand w = .tryReadFrame ↔ w = 0x00000001) ∧
    (∀ exp maxt : Byte, decodeCommand w = .awaitStatus exp maxt ↔
      w &&& 0xFF0000FF = 0x00000002 ∧ exp = w.extractLsb' 8 8 ∧ maxt = w.extractLsb' 16 8) ∧
    (decodeCommand w = .decode ↔ w = 0x00000003) ∧
    (decodeCommand w = .pollOnce ↔ w = 0x00000004)

/-- Words of the opcode table, written out, decode to their instructions. -/
def Obligations.TableWordsDecode : Prop :=
  decodeTableWord 32 0x00000001 = some .tryReadFrame ∧
  decodeTableWord 32 0x000AA202 = some (.awaitStatus 0xA2 10) ∧
  decodeTableWord 32 0x00000003 = some .decode ∧
  decodeTableWord 32 0x00000004 = some .pollOnce ∧
  decodeTableWord 32 0x00000006 = some (.illegalCommand 6) ∧
  decodeTableWord 8 0x15 = some (.frameSystemStatus (some 0)) ∧
  decodeTableWord 8 0x06 = some .frameRequestMsg ∧
  decodeTableWord 8 0x44 = some (.frameUnknown 0x44)

/-! ### A step runs the decoded instruction -/

/-- When it is the block's turn and a command runs, one step is `exec` of the command that CMD
decodes to, and the block's turn is taken off the list of moves. -/
def Obligations.StepRunsTheCommand : Prop :=
  ∀ s : State, s.seq ≠ .halted → (s.seq = .idle → s.busy = true) →
    (s.env.inputs = [] → step s = exec (decodeCommand s.cmd) s) ∧
    (∀ rest, s.env.inputs = .spb :: rest →
      step s = exec (decodeCommand s.cmd) { s with env := { s.env with inputs := rest } })

/-- At D_DECODE with a frame held that decodes to a FRAME row, one step of a running DECODE or
POLL_ONCE is `exec` of that row: FDEC reads the row from the frame register (R140, R141). -/
def Obligations.StepRunsTheHeldFrame : Prop :=
  ∀ (s : State) (i : Instr), s.seq = .dDecode → s.frameValid = true →
    (decodeCommand s.cmd = .decode ∨ decodeCommand s.cmd = .pollOnce) →
    decodeFrame (s.frame.toList.take s.frameLen.val) = .ok i →
    (s.env.inputs = [] → step s = exec i s) ∧
    (∀ rest, s.env.inputs = .spb :: rest →
      step s = exec i { s with env := { s.env with inputs := rest } })

/-- A block write by the lifecycle controller that decodes to SET_RUNTIME_BLOCK runs that
instruction while busy = 0, and takes the write off the list of moves (R45, R49). While busy = 1 the
controller holds: it is the block's turn, and the write stays listed. -/
def Obligations.StepRunsTheBlockWrite : Prop :=
  ∀ (s : State) (b : Block) (rest : List Input) (i : Instr),
    s.env.inputs = .blockWrite b :: rest → decodeBlock b.toList = .ok i →
    (s.busy = false → step s = exec i { s with env := { s.env with inputs := rest } }) ∧
    (s.busy = true → s.seq ≠ .halted → step s = exec (decodeCommand s.cmd) s)

/-! ### Who may change what -/

/-- The Commander's write of CMD: allowed exactly while busy = 0 and seq = IDLE, when it sets CMD and
busy and nothing else (R18, R19); otherwise the Commander holds and the block takes its turn. -/
def Obligations.CommanderWritesOnlyWhenIdle : Prop :=
  ∀ (s : State) (w : Word) (rest : List Input), s.env.inputs = .command w :: rest →
    (s.busy = false → s.seq = .idle →
      step s = .next { s with cmd := w, busy := true, env := { s.env with inputs := rest } }) ∧
    (s.busy = true → s.seq ≠ .halted → step s = exec (decodeCommand s.cmd) s)

/-- CMD is written by the Commander and by a block reset only: the block only reads it (R18). -/
def Obligations.OnlyTheCommanderWritesCmd : Prop :=
  ∀ s t : State, step s = .next t → t.cmd ≠ s.cmd →
    (∃ w rest, s.env.inputs = .command w :: rest ∧ s.busy = false ∧ s.seq = .idle ∧ t.cmd = w) ∨
    (∃ rest, s.env.inputs = .blockReset :: rest)

/-- The line changes hands only at T_FREEZE (driven low), at T_RELEASE (released) and at a block reset
(released): no other unit and no environment agent writes `ts_mode` (R11, R240). What T_FREEZE and
T_RELEASE do write is stated in FreezeStep and ReleaseStep. -/
def Obligations.OnlyTseqDrivesTheLine : Prop :=
  ∀ s t : State, step s = .next t → t.tsMode ≠ s.tsMode →
    (s.seq = .tFreeze ∧ t.tsMode = .outLow ∧ t.seq = .tDrain) ∨
    (s.seq = .tRelease ∧ t.tsMode = .inPu) ∨
    (∃ rest, s.env.inputs = .blockReset :: rest ∧ t.tsMode = .inPu)

/-- `frame` and `frame_len` are written only by a successful T_DRAIN, whole, with the 32 bytes of the
answer (R14, R16, R104), or by a block reset. -/
def Obligations.OnlyTheDrainWritesTheFrame : Prop :=
  ∀ s t : State, step s = .next t → (t.frame ≠ s.frame ∨ t.frameLen ≠ s.frameLen) →
    (s.seq = .tDrain ∧ ∃ b, (memRead s).1 = .ok b ∧ t.frame = b ∧ t.frameLen = 32 ∧
      t.frameValid = true) ∨
    (∃ rest, s.env.inputs = .blockReset :: rest)

/-- `frame_valid` is set only by a successful T_DRAIN, and cleared only at T_READY, at P_MATCH, at
D_DECODE and at a block reset (R15). -/
def Obligations.FrameValidWriters : Prop :=
  ∀ s t : State, step s = .next t → t.frameValid ≠ s.frameValid →
    (t.frameValid = true ∧ s.seq = .tDrain ∧ ∃ b, (memRead s).1 = .ok b) ∨
    (t.frameValid = false ∧ (s.seq = .tReady ∨ s.seq = .pMatch ∨ s.seq = .dDecode)) ∨
    (t.frameValid = false ∧ ∃ rest, s.env.inputs = .blockReset :: rest)

/-- `p_expected` and `p_max` are written only at P_START, from the command's operands, `p_tries` only
there (to 0) and at P_ATTEMPT (by one), and all three by a block reset (R17). -/
def Obligations.WaitRegistersWriters : Prop :=
  ∀ s t : State, step s = .next t →
    (t.pExpected ≠ s.pExpected ∨ t.pMax ≠ s.pMax ∨ t.pTries ≠ s.pTries) →
    (s.seq = .pStart ∧ decodeCommand s.cmd = .awaitStatus t.pExpected t.pMax ∧ t.pTries = 0) ∨
    (s.seq = .pAttempt ∧ t.pExpected = s.pExpected ∧ t.pMax = s.pMax ∧
      t.pTries.toNat = s.pTries.toNat + 1 ∧ t.pTries ≤ t.pMax) ∨
    (∃ rest, s.env.inputs = .blockReset :: rest)

/-- `evq` changes only at a dispatch, which empties it, at D_DECODE, which appends to it, and at a
block reset (R22, R82, R170, R204). The D_DECODE is that of a DECODE or a POLL_ONCE: TRY_READ_FRAME and
AWAIT_STATUS emit nothing (R87). -/
def Obligations.EventsChangeOnlyAtDispatchAndDecode : Prop :=
  ∀ s t : State, step s = .next t → t.evq ≠ s.evq →
    (s.seq = .idle ∧ s.busy = true ∧ t.evq = []) ∨
    (s.seq = .dDecode ∧ (decodeCommand s.cmd = .decode ∨ decodeCommand s.cmd = .pollOnce) ∧
      ∃ recs, t.evq = s.evq ++ recs) ∨
    (∃ rest, s.env.inputs = .blockReset :: rest ∧ t.evq = [])

/-- The only places a fault is raised are dispatch and D_DECODE: no step of TSEQ or SAP raises one
(R215), and in both the line is released. -/
def Obligations.FaultsOnlyAtDispatchAndDecode : Prop :=
  ∀ s t : State, GoodState s → step s = .next t → s.seq ≠ .halted → t.seq = .halted →
    ((s.seq = .idle ∧ t.fault = 1 ∧ decodeCommand s.cmd = .illegalCommand s.cmd) ∨
     (s.seq = .dDecode ∧ t.fault = 2 ∧ s.frameValid = false)) ∧
    t.tsMode = .inPu ∧ t.busy = true ∧ t.cmd = s.cmd

/-- In HALTED the block takes no step; until a block reset every register stays as it is (R214). -/
def Obligations.HaltedUntilBlockReset : Prop :=
  ∀ s : State, s.seq = .halted → s.busy = true →
    (s.env.inputs = [] → step s = .fault .halted) ∧
    (∀ rest, s.env.inputs = .spb :: rest → step s = .fault .halted) ∧
    (∀ t, step s = .next t → (∀ rest, s.env.inputs ≠ .blockReset :: rest) →
      ∃ e, t = { s with env := e })

/-- A FAULT bit is sticky: no command and no agent clears it but a block reset (R21, R214). -/
def Obligations.FaultBitsAreSticky : Prop :=
  ∀ s t : State, step s = .next t → (∀ rest, s.env.inputs ≠ .blockReset :: rest) →
    ∀ i, s.fault.getLsbD i = true → t.fault.getLsbD i = true

/-! ### Dispatch -/

/-- R82: dispatch. A legal command empties `evq`, clears XFER, EVCNT and TRIES and enters its first
state; an illegal one raises F_ILLEGAL_COMMAND before any of that. -/
def Obligations.DispatchStartsTheCommand : Prop :=
  ∀ s : State, s.seq = .idle → s.busy = true →
    (let cleared := setStatusTries 0 (setStatusEvcnt 0 (setStatusXfer .none s.status))
     exec .tryReadFrame s = .next { s with evq := [], status := cleared, seq := .tReady } ∧
     (∀ exp maxt, exec (.awaitStatus exp maxt) s =
       .next { s with evq := [], status := cleared, seq := .pStart }) ∧
     exec .decode s = .next { s with evq := [], status := cleared, seq := .dDecode } ∧
     exec .pollOnce s = .next { s with evq := [], status := cleared, seq := .tReady }) ∧
    (∀ w, exec (.illegalCommand w) s = .next (faulted 0 s))

/-! ### TSEQ -/

/-- R102 with the exits of R106: T_READY drops the old frame and samples the line once. High: XFER is
NO_FRAME, `ts_mode` stays IN_PU and the command exits. Low: on to T_FREEZE. -/
def Obligations.ReadyStep : Prop :=
  ∀ (s : State) (exp maxt : Byte), s.seq = .tReady → s.tsMode = .inPu →
    let e := (sampleLine s).2.env
    let high := setStatusXfer .noFrame (setStatusFv false s.status)
    ((sampleLine s).1 = .high →
      exec .tryReadFrame s = .next { s with
        frameValid := false, busy := false, seq := .idle, env := e,
        status := setStatusRes .noFrame high } ∧
      exec (.awaitStatus exp maxt) s = .next { s with
        frameValid := false, seq := .pMatch, env := e, status := high } ∧
      exec .pollOnce s = .next { s with
        frameValid := false, busy := false, seq := .idle, env := e,
        status := setStatusRes .pollDone high }) ∧
    ((sampleLine s).1 = .low →
      ∀ i, usesTransport i = true → exec i s = .next { s with
        frameValid := false, seq := .tFreeze, env := e, status := setStatusFv false s.status })

/-- R103: T_FREEZE drives the line low and changes nothing else. -/
def Obligations.FreezeStep : Prop :=
  ∀ (s : State) (i : Instr), s.seq = .tFreeze → usesTransport i = true →
    exec i s = .next { s with tsMode := .outLow, seq := .tDrain }

/-- R104: T_DRAIN makes one block read. A successful one writes the frame register whole; a failed one
leaves it. The read bytes are not looked at. -/
def Obligations.DrainStep : Prop :=
  ∀ (s : State) (i : Instr), s.seq = .tDrain → usesTransport i = true →
    (∀ b, (memRead s).1 = .ok b →
      exec i s = .next { s with
        frame := b, frameLen := 32, frameValid := true, seq := .tRelease,
        status := setStatusXfer .frame (setStatusFv true s.status), env := (memRead s).2.env }) ∧
    ((memRead s).1 = .busError →
      exec i s = .next { s with
        seq := .tRelease, status := setStatusXfer .busError s.status, env := (memRead s).2.env })

/-- R105 with the exits of R106: T_RELEASE returns the line whatever the drain's outcome, and the
command exits. -/
def Obligations.ReleaseStep : Prop :=
  ∀ (s : State) (exp maxt : Byte), s.seq = .tRelease →
    (statusXfer s.status = .frame → exec .tryReadFrame s = .next { s with
      tsMode := .inPu, busy := false, seq := .idle, status := setStatusRes .frame s.status }) ∧
    (statusXfer s.status = .noFrame → exec .tryReadFrame s = .next { s with
      tsMode := .inPu, busy := false, seq := .idle, status := setStatusRes .noFrame s.status }) ∧
    (statusXfer s.status = .busError → exec .tryReadFrame s = .next { s with
      tsMode := .inPu, busy := false, seq := .idle, status := setStatusRes .busError s.status }) ∧
    exec (.awaitStatus exp maxt) s = .next { s with tsMode := .inPu, seq := .pMatch } ∧
    (statusXfer s.status = .frame → exec .pollOnce s = .next { s with
      tsMode := .inPu, seq := .dDecode }) ∧
    (statusXfer s.status ≠ .frame → exec .pollOnce s = .next { s with
      tsMode := .inPu, busy := false, seq := .idle, status := setStatusRes .pollDone s.status })

/-- R100, R107: TRY_READ_FRAME from its dispatch to its end. Line high: two steps, NO_FRAME, the old
frame dropped. Line low: five steps; the frame held, or BUS_ERROR; the line released either way. -/
def Obligations.TryReadFrameRuns : Prop :=
  ∀ (s : State) (ls : List Level), GoodState s → s.seq = .idle → s.busy = true → s.cmd = 0x00000001 →
    s.env.inputs = [] →
    (s.env.lineDraws = .high :: ls →
      Host.Core.run Sys2Proof.core 2 s = .next { s with
        frameValid := false, busy := false, evq := [], status := 0x00000022,
        env := { s.env with lineDraws := ls } }) ∧
    (∀ b rs, s.env.lineDraws = .low :: ls → s.env.readDraws = .ok b :: rs →
      Host.Core.run Sys2Proof.core 5 s = .next { s with
        frame := b, frameLen := 32, frameValid := true, busy := false, evq := [],
        status := 0x01000011, env := { s.env with lineDraws := ls, readDraws := rs } }) ∧
    (∀ rs, s.env.lineDraws = .low :: ls → s.env.readDraws = .busError :: rs →
      Host.Core.run Sys2Proof.core 5 s = .next { s with
        frameValid := false, busy := false, evq := [], status := 0x00000033,
        env := { s.env with lineDraws := ls, readDraws := rs } })

/-! ### SAP -/

/-- R121: P_START loads the wait's registers; a budget of 0 completes with TIMEOUT at once. -/
def Obligations.StartStep : Prop :=
  ∀ (s : State) (exp maxt : Byte), s.seq = .pStart →
    (maxt = 0 → exec (.awaitStatus exp maxt) s = .next { s with
      pExpected := exp, pMax := maxt, pTries := 0, busy := false, seq := .idle,
      status := setStatusRes .timeout (setStatusTries 0 s.status) }) ∧
    (maxt ≠ 0 → exec (.awaitStatus exp maxt) s = .next { s with
      pExpected := exp, pMax := maxt, pTries := 0, seq := .pAttempt,
      status := setStatusTries 0 s.status })

/-- R122: P_ATTEMPT counts one attempt and starts the transport; the count neither wraps nor exceeds the
budget. -/
def Obligations.AttemptStep : Prop :=
  ∀ (s : State) (exp maxt : Byte), s.seq = .pAttempt → s.pTries < s.pMax →
    (s.pTries + 1).toNat = s.pTries.toNat + 1 ∧ s.pTries + 1 ≤ s.pMax ∧
    exec (.awaitStatus exp maxt) s = .next { s with
      pTries := s.pTries + 1, seq := .tReady,
      status := setStatusTries (s.pTries + 1) s.status }

/-- R123 with the predicate of R124: a BusError first, then a match, then the budget. -/
def Obligations.MatchStep : Prop :=
  ∀ (s : State) (exp maxt : Byte), s.seq = .pMatch →
    let ack : Prop := statusXfer s.status = .frame ∧ s.frame[3] = 0x15#8 ∧ 5 ≤ s.frameLen.val ∧
      s.frame[4] = s.pExpected
    let dropped := setStatusFv false s.status
    (statusXfer s.status = .busError → exec (.awaitStatus exp maxt) s = .next { s with
      busy := false, seq := .idle, status := setStatusRes .busError s.status }) ∧
    (ack → exec (.awaitStatus exp maxt) s = .next { s with
      frameValid := false, busy := false, seq := .idle, status := setStatusRes .ack dropped }) ∧
    (statusXfer s.status ≠ .busError → ¬ack → s.pTries = s.pMax →
      exec (.awaitStatus exp maxt) s = .next { s with
        frameValid := false, busy := false, seq := .idle,
        status := setStatusRes .timeout dropped }) ∧
    (statusXfer s.status ≠ .busError → ¬ack → s.pTries ≠ s.pMax →
      exec (.awaitStatus exp maxt) s = .next { s with
        frameValid := false, seq := .pInterval, status := dropped })

/-- R125: P_INTERVAL is left together with a TICK and held without one; a TICK in any other state has
no effect. The model's choices: the block's turn without a TICK answers the same state (log entry 10),
and a listed TICK is taken off the list of moves (log entry 2). -/
def Obligations.IntervalStep : Prop :=
  ∀ (s : State) (exp maxt : Byte) (rest : List Input),
    (s.seq = .pInterval → s.env.inputs = .tick :: rest →
      exec (.awaitStatus exp maxt) s = .next { s with
        seq := .pAttempt, env := { s.env with inputs := rest } } ∧
      (decodeCommand s.cmd = .awaitStatus exp maxt → step s = .next { s with
        seq := .pAttempt, env := { s.env with inputs := rest } })) ∧
    (s.seq = .pInterval → (∀ r, s.env.inputs ≠ .tick :: r) →
      exec (.awaitStatus exp maxt) s = .next s) ∧
    (s.seq ≠ .pInterval → s.env.inputs = .tick :: rest →
      step s = .next { s with env := { s.env with inputs := rest } })

/-- R129: with a budget of 0, AWAIT_STATUS completes at P_START: TIMEOUT, no attempt, no sample, no
read. -/
def Obligations.ZeroBudgetTimesOut : Prop :=
  ∀ (s : State) (exp : Byte), GoodState s → s.seq = .idle → s.busy = true →
    decodeCommand s.cmd = .awaitStatus exp 0 → s.env.inputs = [] →
    Host.Core.run Sys2Proof.core 2 s = .next { s with
      pExpected := exp, pMax := 0, pTries := 0, busy := false, evq := [],
      status := if s.frameValid then 0x01000005 else 0x00000005 }

/-- R126, first sentence: a wait of budget m ≥ 1 whose attempts never match and never fail completes
with TIMEOUT and TRIES = m after exactly m attempts and m - 1 TICKs: it uses up exactly the samples,
the reads and the moves of m attempts. -/
def Obligations.WaitTimesOutAfterExactlyItsBudget : Prop :=
  ∀ (s : State) (exp maxt : Byte) (as : List Attempt) (more : List Input) (ls : List Level)
    (rs : List ReadAnswer),
    GoodState s → s.seq = .idle → s.busy = true → decodeCommand s.cmd = .awaitStatus exp maxt →
    1 ≤ maxt.toNat → as.length = maxt.toNat → (∀ a ∈ as, a.goesOn exp = true) →
    s.env.inputs = .spb :: .spb :: (waitInputs as ++ more) → waitAnswers as ls rs s →
    (waitInputs as).count .tick = maxt.toNat - 1 ∧
    ∃ t, Host.Core.run Sys2Proof.core (2 + (waitInputs as).length) s = .next t ∧
      t.seq = .idle ∧ t.busy = false ∧ statusRes t.status = 5 ∧ statusTries t.status = maxt ∧
      t.pTries = maxt ∧ t.frameValid = false ∧ t.tsMode = .inPu ∧ t.evq = [] ∧
      t.env.inputs = more ∧ t.env.lineDraws = ls ∧ t.env.readDraws = rs

/-- R126, second sentence: a wait that sees its first match at attempt k ≤ m completes with ACK and
TRIES = k after k - 1 TICKs; the matching frame is consumed and the frames before it are lost
(R128). -/
def Obligations.WaitAcknowledgesAtFirstMatch : Prop :=
  ∀ (s : State) (exp maxt : Byte) (as : List Attempt) (b : Window) (more : List Input)
    (ls : List Level) (rs : List ReadAnswer),
    GoodState s → s.seq = .idle → s.busy = true → decodeCommand s.cmd = .awaitStatus exp maxt →
    as.length + 1 ≤ maxt.toNat → (∀ a ∈ as, a.goesOn exp = true) →
    (Attempt.frame b).acknowledges exp = true →
    s.env.inputs = .spb :: .spb :: (waitInputs (as ++ [Attempt.frame b]) ++ more) →
    waitAnswers (as ++ [Attempt.frame b]) ls rs s →
    (waitInputs (as ++ [Attempt.frame b])).count .tick = as.length ∧
    ∃ t, Host.Core.run Sys2Proof.core (2 + (waitInputs (as ++ [Attempt.frame b])).length) s = .next t ∧
      t.seq = .idle ∧ t.busy = false ∧ statusRes t.status = 4 ∧
      (statusTries t.status).toNat = as.length + 1 ∧ t.frameValid = false ∧ t.tsMode = .inPu ∧
      t.evq = [] ∧ t.env.inputs = more ∧ t.env.lineDraws = ls ∧ t.env.readDraws = rs

/-- R127: a BusError in the drain of attempt k ends the wait at once with BUS_ERROR, whatever budget
remains; the line has been released. -/
def Obligations.WaitEndsAtBusError : Prop :=
  ∀ (s : State) (exp maxt : Byte) (as : List Attempt) (more : List Input)
    (ls : List Level) (rs : List ReadAnswer),
    GoodState s → s.seq = .idle → s.busy = true → decodeCommand s.cmd = .awaitStatus exp maxt →
    as.length + 1 ≤ maxt.toNat → (∀ a ∈ as, a.goesOn exp = true) →
    s.env.inputs = .spb :: .spb :: (waitInputs (as ++ [Attempt.busError]) ++ more) →
    waitAnswers (as ++ [Attempt.busError]) ls rs s →
    ∃ t, Host.Core.run Sys2Proof.core (2 + (waitInputs (as ++ [Attempt.busError])).length) s = .next t ∧
      t.seq = .idle ∧ t.busy = false ∧ statusRes t.status = 3 ∧ statusXfer t.status = .busError ∧
      (statusTries t.status).toNat = as.length + 1 ∧ t.frameValid = false ∧ t.tsMode = .inPu ∧
      t.evq = [] ∧ t.env.inputs = more ∧ t.env.lineDraws = ls ∧ t.env.readDraws = rs

/-! ### FDEC -/

/-- R140: the D_DECODE step of DECODE and of POLL_ONCE. No frame: F_DECODE_EMPTY. ShortSensor:
F_SHORT_SENSOR. Otherwise the records are appended, the frame is dropped and the command completes. -/
def Obligations.DecodeStep : Prop :=
  ∀ s : State, s.seq = .dDecode →
    let d := dec machineParams (s.frame.toList.take s.frameLen.val)
    (s.frameValid = false →
      exec .decode s = .next (faulted 1 s) ∧ exec .pollOnce s = .next (faulted 1 s)) ∧
    (s.frameValid = true → d = .shortSensor →
      exec .decode s = .next (faulted 2 s) ∧ exec .pollOnce s = .next (faulted 2 s)) ∧
    (∀ cls recs, s.frameValid = true → d = .decoded cls recs →
      exec .decode s = .next (delivered cls recs s) ∧
      exec .pollOnce s = .next (delivered .pollDone recs s))

/-- R142, R143, R145, R146, R147: the class and the records of each form of a frame, under DECODE; and
under POLL_ONCE the same records with POLL_DONE (R140). -/
def Obligations.FrameRowsComplete : Prop :=
  ∀ (s : State) (n : BitVec 4) (c : Option Byte) (text : List Byte) (f : SensorFields)
    (identifier : Byte), s.seq = .dDecode → s.frameValid = true →
    (decodeCommand s.cmd = .decode →
      exec (.frameShort n) s = .next (delivered .decShort [] s) ∧
      exec (.frameSystemStatus c) s = .next (delivered .decStatus [] s) ∧
      exec (.frameFirmwareVersion text) s =
        .next (delivered .decFirmware [encFirmware text] s) ∧
      exec (.frameSensorData f) s =
        .next (delivered .decSensor (encSensor machineParams f) s) ∧
      exec .frameRequestMsg s = .next (delivered .decUnknown [] s) ∧
      exec (.frameUnknown identifier) s = .next (delivered .decUnknown [] s)) ∧
    (decodeCommand s.cmd = .pollOnce →
      exec (.frameShort n) s = .next (delivered .pollDone [] s) ∧
      exec (.frameSystemStatus c) s = .next (delivered .pollDone [] s) ∧
      exec (.frameFirmwareVersion text) s =
        .next (delivered .pollDone [encFirmware text] s) ∧
      exec (.frameSensorData f) s =
        .next (delivered .pollDone (encSensor machineParams f) s) ∧
      exec .frameRequestMsg s = .next (delivered .pollDone [] s) ∧
      exec (.frameUnknown identifier) s = .next (delivered .pollDone [] s))

/-- R141 to R147: what `Dec` returns for every byte sequence, by its length and its identifier. -/
def Obligations.DecByLengthAndIdentifier : Prop :=
  ∀ (p : Params) (b : List Byte),
    (b.length < 4 → dec p b = .decoded .decShort []) ∧
    (∀ h : 4 ≤ b.length,
      (b[3] = 0x91#8 → b.length < 26 → dec p b = .shortSensor) ∧
      (b[3] = 0x91#8 → 26 ≤ b.length →
        dec p b = .decoded .decSensor (encSensor p (sensorFields b))) ∧
      (b[3] = 0x15#8 → dec p b = .decoded .decStatus []) ∧
      (b[3] = 0x83#8 → dec p b = .decoded .decFirmware [encFirmware (b.drop 12)]) ∧
      (b[3] ≠ 0x91#8 → b[3] ≠ 0x15#8 → b[3] ≠ 0x83#8 → dec p b = .decoded .decUnknown []))

/-- From a good state a running DECODE completes or, with no frame held, halts; the result is the one
32-bit STATUS word of R20. -/
def Obligations.DecodeRuns : Prop :=
  ∀ s : State, GoodState s → s.seq = .idle → s.busy = true → s.cmd = 0x00000003 → s.env.inputs = [] →
    (s.frameValid = false → Host.Core.run Sys2Proof.core 2 s = .next { s with
      seq := .halted, evq := [], fault := 0x00000002, status := 0x8000000F }) ∧
    (s.frameValid = true → ∃ cls recs,
      dec machineParams s.frame.toList = .decoded cls recs ∧
      Host.Core.run Sys2Proof.core 2 s = .next { s with
        frameValid := false, busy := false, evq := recs,
        status := cls.code.setWidth 32 ||| (BitVec.ofNat 32 recs.length <<< 8) })

/-- R200, R201: POLL_ONCE from its dispatch to its end always completes with POLL_DONE. No frame and
BUS_ERROR give no event; a frame gives the records of `Dec`. The line is released and no frame is kept. -/
def Obligations.PollOnceRuns : Prop :=
  ∀ (s : State) (ls : List Level), GoodState s → s.seq = .idle → s.busy = true → s.cmd = 0x00000004 →
    s.env.inputs = [] →
    (s.env.lineDraws = .high :: ls →
      Host.Core.run Sys2Proof.core 2 s = .next { s with
        frameValid := false, busy := false, evq := [], status := 0x0000002B,
        env := { s.env with lineDraws := ls } }) ∧
    (∀ rs, s.env.lineDraws = .low :: ls → s.env.readDraws = .busError :: rs →
      Host.Core.run Sys2Proof.core 5 s = .next { s with
        frameValid := false, busy := false, evq := [], status := 0x0000003B,
        env := { s.env with lineDraws := ls, readDraws := rs } }) ∧
    (∀ b rs, s.env.lineDraws = .low :: ls → s.env.readDraws = .ok b :: rs →
      ∃ cls recs, dec machineParams b.toList = .decoded cls recs ∧
        Host.Core.run Sys2Proof.core 6 s = .next { s with
          frame := b, frameLen := 32, frameValid := false, busy := false, evq := recs,
          status := 0x0000001B ||| (BitVec.ofNat 32 recs.length <<< 8),
          env := { s.env with lineDraws := ls, readDraws := rs } })

/-- R61, R149: the size, flags and sequence bytes change no outcome of the decoder. -/
def Obligations.DecIgnoresHeaderBytes : Prop :=
  ∀ (p : Params) (a0 a1 a2 c0 c1 c2 : Byte) (rest : List Byte),
    dec p (a0 :: a1 :: a2 :: rest) = dec p (c0 :: c1 :: c2 :: rest)

/-- R74 for sensor data: two sensor-data frames that agree on the named bits give the same records,
whatever their timestamp, dsp-status, padding and trailing bytes, the DSP bit and bits 15..5 of the
ConfigMask, bits 7..2 of the SystemInfo, and bit 15 of the action field. -/
def Obligations.DecIgnoresUnnamedBits : Prop :=
  ∀ (p : Params) (a b : Window), a[3] = 0x91#8 → b[3] = 0x91#8 →
    (∀ j, 1 ≤ j → j ≤ 4 → a[4].getLsbD j = b[4].getLsbD j) →
    (∀ j, j ≤ 1 → a[7].getLsbD j = b[7].getLsbD j) →
    a[10] = b[10] → a[14] = b[14] → (∀ j, j ≤ 6 → a[15].getLsbD j = b[15].getLsbD j) →
    a[18] = b[18] → a[20] = b[20] → a[21] = b[21] → a[22] = b[22] → a[23] = b[23] →
    a[24] = b[24] → a[25] = b[25] → dec p a.toList = dec p b.toList

/-! ### EVENC -/

/-- R87, R171, R179: a sensor-data frame gives at most four records, at most one of each kind, in the
order POSITION, GESTURE, TOUCH, AIRWHEEL; and four exactly when every gate is open. -/
def Obligations.AtMostFourRecordsInOrder : Prop :=
  ∀ (p : Params) (f : SensorFields),
    (∃ ps gs ts ws : List Event, encSensor p f = ps ++ gs ++ ts ++ ws ∧
      ps.length ≤ 1 ∧ gs.length ≤ 1 ∧ ts.length ≤ 1 ∧ ws.length ≤ 1 ∧
      (∀ e ∈ ps, ∃ x y z xn yn zn, e = .position x y z xn yn zn) ∧
      (∀ e ∈ gs, ∃ c t, e = .gesture c t) ∧
      (∀ e ∈ ts, ∃ b k q, e = .touch b k q) ∧
      (∀ e ∈ ws, ∃ r, e = .airwheel r)) ∧
    ((encSensor p f).length = 4 ↔
      (∀ j, 1 ≤ j → j ≤ 4 → f.configmask.getLsbD j = true) ∧
      f.sysinfo.getLsbD 0 = true ∧ f.sysinfo.getLsbD 1 = true ∧ f.gesture ≠ 0 ∧ f.touch ≠ 0 ∧
      (f.gesture.toNat ≤ 7 ∨ p.unmapped = .emitUnmapped))

/-- R172, R178: a POSITION record is emitted exactly when `cm[4]` and `si[0]` are set, an AIRWHEEL
record exactly when `cm[3]` and `si[1]` are set, with the raw values of the frame. -/
def Obligations.PositionAndAirwheelGates : Prop :=
  ∀ (p : Params) (f : SensorFields) (x y z : BitVec 16) (xn yn zn : BitVec 14) (r : Byte),
    (.position x y z xn yn zn ∈ encSensor p f ↔
      f.configmask.getLsbD 4 = true ∧ f.sysinfo.getLsbD 0 = true ∧ x = f.x ∧ y = f.y ∧ z = f.z ∧
      xn.toNat = normalizeAxis p.tie f.x ∧ yn.toNat = normalizeAxis p.tie f.y ∧
      zn.toNat = normalizeAxis p.tie f.z) ∧
    (.airwheel r ∈ encSensor p f ↔
      f.configmask.getLsbD 3 = true ∧ f.sysinfo.getLsbD 1 = true ∧ r = f.airwheel)

/-- R174, R175: the GESTURE record, for every class id and both values of `P_GESTURE_UNMAPPED`. -/
def Obligations.GestureRecords : Prop :=
  ∀ (p : Params) (f : SensorFields) (c : Byte) (t : GestureTag),
    (.gesture c t ∈ encSensor p f ↔
      f.configmask.getLsbD 1 = true ∧ c = f.gesture ∧
      ((1 ≤ c.toNat ∧ c.toNat ≤ 7 ∧ t.code = c.toNat) ∨
       (8 ≤ c.toNat ∧ p.unmapped = .emitUnmapped ∧ t = .unmapped)))

/-- R176, R177: the TOUCH record is that of the highest set action bit, and there is one exactly when
`cm[2]` is set and some action bit is. -/
def Obligations.TouchReportsHighestBit : Prop :=
  ∀ (p : Params) (f : SensorFields) (b : BitVec 4) (k : TouchKind) (q : TouchPos),
    (.touch b k q ∈ encSensor p f ↔
      f.configmask.getLsbD 2 = true ∧
      ∃ i, i ≤ 14 ∧ f.touch.getLsbD i = true ∧ (∀ j, i < j → j ≤ 14 → f.touch.getLsbD j = false) ∧
        b.toNat = i ∧ k = touchKindOfIndex ((14 - i) / 5) ∧ q = touchPosOfIndex ((14 - i) % 5))

/-- R69: the fifteen actions. -/
def Obligations.TouchTable : Prop :=
  (List.range 15).map touchRecord =
    [.touch 0 .touch .south, .touch 1 .touch .west, .touch 2 .touch .north, .touch 3 .touch .east,
     .touch 4 .touch .center, .touch 5 .tap .south, .touch 6 .tap .west, .touch 7 .tap .north,
     .touch 8 .tap .east, .touch 9 .tap .center, .touch 10 .doubleTap .south,
     .touch 11 .doubleTap .west, .touch 12 .doubleTap .north, .touch 13 .doubleTap .east,
     .touch 14 .doubleTap .center]

/-- R173: N(v) is the integer nearest v * 625 / 4096; a tie goes to the even one under HALF_EVEN and to
the larger one under HALF_UP. -/
def Obligations.NormalizeRoundsToNearest : Prop :=
  ∀ (t : TieMode) (v : BitVec 16),
    (v.toNat * 625 % 4096 ≠ 2048 → ∀ m : Nat,
      2 * (v.toNat * 625) < 4096 * (2 * m + 1) → 4096 * (2 * m) < 2 * (v.toNat * 625) + 4096 →
      normalizeAxis t v = m) ∧
    (v.toNat * 625 % 4096 = 2048 →
      (normalizeAxis .halfUp v = v.toNat * 625 / 4096 + 1 ∧
       normalizeAxis .halfEven v % 2 = 0 ∧
       (normalizeAxis .halfEven v = v.toNat * 625 / 4096 ∨
        normalizeAxis .halfEven v = v.toNat * 625 / 4096 + 1)))

/-- R182: the four properties of the normalization, under either tie mode. -/
def Obligations.NormalizeProperties : Prop :=
  ∀ t : TieMode,
    (∀ v : BitVec 16, normalizeAxis t v ≤ 10000 ∧ (normalizeAxis t v = 10000 ↔ 65533 ≤ v.toNat)) ∧
    (normalizeAxis t 0 = 0 ∧ normalizeAxis t 65532 = 9999 ∧ normalizeAxis t 65535 = 10000) ∧
    (∀ v : BitVec 16,
      (scaleBack t (normalizeAxis t v) ≤ 65535 →
        normalizeAxis t (BitVec.ofNat 16 (scaleBack t (normalizeAxis t v))) = normalizeAxis t v) ∧
      (65536 ≤ scaleBack t (normalizeAxis t v) ↔ normalizeAxis t v = 10000) ∧
      scaleBack t 10000 = 65536) ∧
    (∀ u v : BitVec 16, u.toNat ≤ v.toNat → normalizeAxis t u ≤ normalizeAxis t v)

/-- R180: `fw_len` cuts exactly the trailing bytes of {0x00, 0x0D, 0x0A, 0x20} off the text, and the
record keeps the text as read. -/
def Obligations.FirmwareStripsTrailingBytes : Prop :=
  ∀ text : List Byte, text.length ≤ 20 →
    ∃ n : Nat, encFirmware text = .firmware text (BitVec.ofNat 5 n) ∧ n ≤ text.length ∧
      (∀ c ∈ text.drop n, c = 0x00#8 ∨ c = 0x0D#8 ∨ c = 0x0A#8 ∨ c = 0x20#8) ∧
      (∀ c, (text.take n).getLast? = some c →
        c ≠ 0x00#8 ∧ c ≠ 0x0D#8 ∧ c ≠ 0x0A#8 ∧ c ≠ 0x20#8)

/-! ### The lifecycle controller's port and the assembler -/

/-- R45, R46, R76: the SET_RUNTIME block write. On success the Device holds the 15 bytes of R76; on a
BusError it keeps the block it had. No register of the block changes either way. -/
def Obligations.BlockWriteCompletesOrFails : Prop :=
  ∀ (s : State) (a : Byte) (p q : BitVec 32),
    let e := (writeAnswer s).2.env
    ((writeAnswer s).1 = .ok → ∃ b : Block,
      b.toList = [0, 0, 0xA2, a, 0, 0, 0,
        p.extractLsb' 0 8, p.extractLsb' 8 8, p.extractLsb' 16 8, p.extractLsb' 24 8,
        q.extractLsb' 0 8, q.extractLsb' 8 8, q.extractLsb' 16 8, q.extractLsb' 24 8] ∧
      exec (.setRuntimeBlock a p q) s = .next { s with
        env := { e with devBlock := some b, hostWrite := some .ok } }) ∧
    ((writeAnswer s).1 = .busError → e.devBlock = s.env.devBlock ∧
      exec (.setRuntimeBlock a p q) s = .next { s with
        env := { e with hostWrite := some .busError } })

/-- R77, R78: the blocks of the four configuration steps, byte by byte, and the wait after each. The
bytes the spec leaves to the controller (`arg_addr`, step 3's `arg1`) are arguments. -/
def Obligations.ConfigurationBlocks : Prop :=
  ∀ (a : Byte) (x : BitVec 32),
    encode (configBlock a x .airwheel) =
      .block [0, 0, 0xA2, a, 0, 0, 0, 0x20, 0, 0, 0, 0x20, 0, 0, 0] ∧
    encode (configBlock a x .gestures) =
      .block [0, 0, 0xA2, a, 0, 0, 0, 0x7F, 0, 0, 0, 0x7F, 0, 0, 0] ∧
    encode (configBlock a x .sensorData) =
      .block ([0, 0, 0xA2, a, 0, 0, 0, 0x1F, 0, 0, 0] ++ bytes32 x) ∧
    encode (configBlock a x .autoCalibration) =
      .block [0, 0, 0xA2, a, 0, 0, 0, 0, 0, 0, 0, 0x1F, 0, 0, 0] ∧
    encode configWait = .command 0x000AA202

/-- R211: `configure()` succeeds exactly when every write completes and every wait ends with ACK; it
fails with ConfigurationTimeout naming step k exactly when the first step that does not succeed is
k, its write completed and its wait timed out. -/
def Obligations.ConfigureVerdict : Prop :=
  ∀ l : List (ConfigStep × WriteAnswer × Res),
    (configure l = .ok () ↔ ∀ x ∈ l, x.2.1 = .ok ∧ x.2.2 = .ack) ∧
    (∀ k, configure l = .error (.configurationTimeout k) ↔
      ∃ pre post, l = pre ++ (k, .ok, .timeout) :: post ∧
        ∀ x ∈ pre, x.2.1 = .ok ∧ x.2.2 = .ack)

/-- R83: the pseudo-instruction takes the default budget 10, and either operand outside 0..255 is an
assembler error: with both numbers in range the line is the command, at each bound too. -/
def Obligations.AssemblerDefaultAndRange : Prop :=
  ∀ e : List Char,
    assembleAwait [e] = assembleAwait [e, ['1', '0']] ∧
    (∀ n, parseNumber e = some n →
      (n < 256 → assembleAwait [e] = .ok (.awaitStatus (BitVec.ofNat 8 n) 10) ∧
        ∀ m k, parseNumber m = some k →
          (k < 256 →
            assembleAwait [e, m] = .ok (.awaitStatus (BitVec.ofNat 8 n) (BitVec.ofNat 8 k))) ∧
          (256 ≤ k → assembleAwait [e, m] = .error .operandRange)) ∧
      (256 ≤ n → assembleAwait [e] = .error .operandRange ∧
        ∀ m, assembleAwait [e, m] = .error .operandRange))

/-- R14, R16, R22, R23, R204: what the ports show. The Commander reads `frame` and `frame_len` exactly
while `frame_valid = 1`; the Consumer reads `evq` exactly in IDLE and in HALTED, so not while a command
with busy = 1 is past its dispatch (log entry 25). At a D_DECODE the Commander still reads the frame and
the Consumer has no read; after it completes the Consumer reads exactly its records, and the Commander no
frame. -/
def Obligations.PortsAfterDecode : Prop :=
  (∀ s : State,
    (s.frameValid = true →
      commanderFrame s = some s.frame ∧ commanderFrameLen s = some s.frameLen) ∧
    (s.frameValid = false → commanderFrame s = none ∧ commanderFrameLen s = none) ∧
    (s.seq = .idle ∨ s.seq = .halted → consumerEvents s = some s.evq) ∧
    (s.busy = true → s.seq ≠ .idle → s.seq ≠ .halted → consumerEvents s = none)) ∧
  (∀ (s : State) (cls : Res) (recs : List Event), s.seq = .dDecode → s.frameValid = true →
    s.busy = true → s.evq = [] → decodeCommand s.cmd = .decode →
    dec machineParams (s.frame.toList.take s.frameLen.val) = .decoded cls recs →
    commanderFrame s = some s.frame ∧ commanderFrameLen s = some s.frameLen ∧
    consumerEvents s = none ∧
    ∃ t, exec .decode s = .next t ∧ consumerEvents t = some recs ∧ commanderFrame t = none ∧
      commanderFrameLen t = none ∧ commanderBusy t = false ∧
      statusEvcnt (commanderStatus t) = BitVec.ofNat 3 recs.length ∧
      commanderFault t = s.fault ∧ drivenLevel t = drivenLevel s)

/-! ### The Consumer, and blocks of other bytes -/

/-- The Consumer's move (R5, R22, R23): in IDLE, busy or not, and in HALTED it reads `evq` whole and no
register changes; while a command is past its dispatch it holds, and the block takes its turn. The list
of its reads and the holding are the model's (log entries 2 and 25). -/
def Obligations.ConsumerTakesTheRecords : Prop :=
  ∀ (s : State) (rest : List Input), s.env.inputs = .consumer :: rest →
    (s.seq = .idle ∨ s.seq = .halted → step s = .next { s with
      env := { s.env with
        inputs := rest, consumerReads := s.env.consumerReads ++ [s.evq] } }) ∧
    (s.seq ≠ .idle → s.seq ≠ .halted → step s = exec (decodeCommand s.cmd) s)

/-- R204, R22: the records of a command stay readable until the next legal dispatch empties `evq`: no
other step takes them away, neither the Commander's write of CMD nor the fault of an illegal word (R82).
Only a block reset empties it too (R240). And no record is ever held where the Consumer has no read. -/
def Obligations.RecordsStayReadableUntilDispatch : Prop :=
  (∀ s t : State, s.seq = .idle ∨ s.seq = .halted → step s = .next t →
    (∀ rest, s.env.inputs ≠ .blockReset :: rest) →
    (t.evq = s.evq ∧ consumerEvents t = some s.evq) ∨
    (s.seq = .idle ∧ s.busy = true ∧ decodeCommand s.cmd ≠ .illegalCommand s.cmd ∧ t.evq = [])) ∧
  (∀ s : State, GoodState s → consumerEvents s = none → s.evq = [])

/-- A listed block write whose 15 bytes are no SET_RUNTIME block is a block write all the same (R45, R46;
log entry 13): on success the Device holds the 15 bytes, on a BusError it keeps the block it had, and no
register of the block changes. While busy = 1 it holds, as a SET_RUNTIME block does (R49). -/
def Obligations.OtherBlockWrites : Prop :=
  ∀ (s : State) (b : Block) (rest : List Input) (x : DecodeError),
    s.env.inputs = .blockWrite b :: rest → decodeBlock b.toList = .error x →
    let e := (writeAnswer s).2.env
    (s.busy = false → (writeAnswer s).1 = .ok → step s = .next { s with
      env := { e with inputs := rest, devBlock := some b, hostWrite := some .ok } }) ∧
    (s.busy = false → (writeAnswer s).1 = .busError → e.devBlock = s.env.devBlock ∧
      step s = .next { s with
        env := { e with inputs := rest, hostWrite := some .busError } }) ∧
    (s.busy = true → s.seq ≠ .halted → step s = exec (decodeCommand s.cmd) s)
end

