-- ==== Sys2Proof/Laws/State.lean ====
section
/-! SUPPORT. One lemma per field per named update of the state, each true by rfl, so that no proof
unfolds a record update. -/

namespace Sys2Proof.Machine

/-! ### setFrameValid -/

@[simp] theorem setFrameValid_tsMode (b : Bool) (s : State) :
    (setFrameValid b s).tsMode = s.tsMode := rfl

@[simp] theorem setFrameValid_seq (b : Bool) (s : State) :
    (setFrameValid b s).seq = s.seq := rfl

@[simp] theorem setFrameValid_frame (b : Bool) (s : State) :
    (setFrameValid b s).frame = s.frame := rfl

@[simp] theorem setFrameValid_frameLen (b : Bool) (s : State) :
    (setFrameValid b s).frameLen = s.frameLen := rfl

@[simp] theorem setFrameValid_frameValid (b : Bool) (s : State) :
    (setFrameValid b s).frameValid = b := rfl

@[simp] theorem setFrameValid_pExpected (b : Bool) (s : State) :
    (setFrameValid b s).pExpected = s.pExpected := rfl

@[simp] theorem setFrameValid_pMax (b : Bool) (s : State) :
    (setFrameValid b s).pMax = s.pMax := rfl

@[simp] theorem setFrameValid_pTries (b : Bool) (s : State) :
    (setFrameValid b s).pTries = s.pTries := rfl

@[simp] theorem setFrameValid_cmd (b : Bool) (s : State) :
    (setFrameValid b s).cmd = s.cmd := rfl

@[simp] theorem setFrameValid_busy (b : Bool) (s : State) :
    (setFrameValid b s).busy = s.busy := rfl

@[simp] theorem setFrameValid_status (b : Bool) (s : State) :
    (setFrameValid b s).status = setStatusFv b s.status := rfl

@[simp] theorem setFrameValid_fault (b : Bool) (s : State) :
    (setFrameValid b s).fault = s.fault := rfl

@[simp] theorem setFrameValid_evq (b : Bool) (s : State) :
    (setFrameValid b s).evq = s.evq := rfl

@[simp] theorem setFrameValid_env (b : Bool) (s : State) :
    (setFrameValid b s).env = s.env := rfl

/-! ### setXfer -/

@[simp] theorem setXfer_tsMode (x : Xfer) (s : State) :
    (setXfer x s).tsMode = s.tsMode := rfl

@[simp] theorem setXfer_seq (x : Xfer) (s : State) :
    (setXfer x s).seq = s.seq := rfl

@[simp] theorem setXfer_frame (x : Xfer) (s : State) :
    (setXfer x s).frame = s.frame := rfl

@[simp] theorem setXfer_frameLen (x : Xfer) (s : State) :
    (setXfer x s).frameLen = s.frameLen := rfl

@[simp] theorem setXfer_frameValid (x : Xfer) (s : State) :
    (setXfer x s).frameValid = s.frameValid := rfl

@[simp] theorem setXfer_pExpected (x : Xfer) (s : State) :
    (setXfer x s).pExpected = s.pExpected := rfl

@[simp] theorem setXfer_pMax (x : Xfer) (s : State) :
    (setXfer x s).pMax = s.pMax := rfl

@[simp] theorem setXfer_pTries (x : Xfer) (s : State) :
    (setXfer x s).pTries = s.pTries := rfl

@[simp] theorem setXfer_cmd (x : Xfer) (s : State) :
    (setXfer x s).cmd = s.cmd := rfl

@[simp] theorem setXfer_busy (x : Xfer) (s : State) :
    (setXfer x s).busy = s.busy := rfl

@[simp] theorem setXfer_status (x : Xfer) (s : State) :
    (setXfer x s).status = setStatusXfer x s.status := rfl

@[simp] theorem setXfer_fault (x : Xfer) (s : State) :
    (setXfer x s).fault = s.fault := rfl

@[simp] theorem setXfer_evq (x : Xfer) (s : State) :
    (setXfer x s).evq = s.evq := rfl

@[simp] theorem setXfer_env (x : Xfer) (s : State) :
    (setXfer x s).env = s.env := rfl

/-! ### setTries -/

@[simp] theorem setTries_tsMode (n : Byte) (s : State) :
    (setTries n s).tsMode = s.tsMode := rfl

@[simp] theorem setTries_seq (n : Byte) (s : State) :
    (setTries n s).seq = s.seq := rfl

@[simp] theorem setTries_frame (n : Byte) (s : State) :
    (setTries n s).frame = s.frame := rfl

@[simp] theorem setTries_frameLen (n : Byte) (s : State) :
    (setTries n s).frameLen = s.frameLen := rfl

@[simp] theorem setTries_frameValid (n : Byte) (s : State) :
    (setTries n s).frameValid = s.frameValid := rfl

@[simp] theorem setTries_pExpected (n : Byte) (s : State) :
    (setTries n s).pExpected = s.pExpected := rfl

@[simp] theorem setTries_pMax (n : Byte) (s : State) :
    (setTries n s).pMax = s.pMax := rfl

@[simp] theorem setTries_pTries (n : Byte) (s : State) :
    (setTries n s).pTries = n := rfl

@[simp] theorem setTries_cmd (n : Byte) (s : State) :
    (setTries n s).cmd = s.cmd := rfl

@[simp] theorem setTries_busy (n : Byte) (s : State) :
    (setTries n s).busy = s.busy := rfl

@[simp] theorem setTries_status (n : Byte) (s : State) :
    (setTries n s).status = setStatusTries n s.status := rfl

@[simp] theorem setTries_fault (n : Byte) (s : State) :
    (setTries n s).fault = s.fault := rfl

@[simp] theorem setTries_evq (n : Byte) (s : State) :
    (setTries n s).evq = s.evq := rfl

@[simp] theorem setTries_env (n : Byte) (s : State) :
    (setTries n s).env = s.env := rfl

/-! ### goto -/

@[simp] theorem goto_tsMode (q : Seq) (s : State) :
    (goto q s).tsMode = s.tsMode := rfl

@[simp] theorem goto_seq (q : Seq) (s : State) :
    (goto q s).seq = q := rfl

@[simp] theorem goto_frame (q : Seq) (s : State) :
    (goto q s).frame = s.frame := rfl

@[simp] theorem goto_frameLen (q : Seq) (s : State) :
    (goto q s).frameLen = s.frameLen := rfl

@[simp] theorem goto_frameValid (q : Seq) (s : State) :
    (goto q s).frameValid = s.frameValid := rfl

@[simp] theorem goto_pExpected (q : Seq) (s : State) :
    (goto q s).pExpected = s.pExpected := rfl

@[simp] theorem goto_pMax (q : Seq) (s : State) :
    (goto q s).pMax = s.pMax := rfl

@[simp] theorem goto_pTries (q : Seq) (s : State) :
    (goto q s).pTries = s.pTries := rfl

@[simp] theorem goto_cmd (q : Seq) (s : State) :
    (goto q s).cmd = s.cmd := rfl

@[simp] theorem goto_busy (q : Seq) (s : State) :
    (goto q s).busy = s.busy := rfl

@[simp] theorem goto_status (q : Seq) (s : State) :
    (goto q s).status = s.status := rfl

@[simp] theorem goto_fault (q : Seq) (s : State) :
    (goto q s).fault = s.fault := rfl

@[simp] theorem goto_evq (q : Seq) (s : State) :
    (goto q s).evq = s.evq := rfl

@[simp] theorem goto_env (q : Seq) (s : State) :
    (goto q s).env = s.env := rfl

/-! ### complete -/

@[simp] theorem complete_tsMode (r : Res) (s : State) :
    (complete r s).tsMode = s.tsMode := rfl

@[simp] theorem complete_seq (r : Res) (s : State) :
    (complete r s).seq = .idle := rfl

@[simp] theorem complete_frame (r : Res) (s : State) :
    (complete r s).frame = s.frame := rfl

@[simp] theorem complete_frameLen (r : Res) (s : State) :
    (complete r s).frameLen = s.frameLen := rfl

@[simp] theorem complete_frameValid (r : Res) (s : State) :
    (complete r s).frameValid = s.frameValid := rfl

@[simp] theorem complete_pExpected (r : Res) (s : State) :
    (complete r s).pExpected = s.pExpected := rfl

@[simp] theorem complete_pMax (r : Res) (s : State) :
    (complete r s).pMax = s.pMax := rfl

@[simp] theorem complete_pTries (r : Res) (s : State) :
    (complete r s).pTries = s.pTries := rfl

@[simp] theorem complete_cmd (r : Res) (s : State) :
    (complete r s).cmd = s.cmd := rfl

@[simp] theorem complete_busy (r : Res) (s : State) :
    (complete r s).busy = false := rfl

@[simp] theorem complete_status (r : Res) (s : State) :
    (complete r s).status = setStatusRes r s.status := rfl

@[simp] theorem complete_fault (r : Res) (s : State) :
    (complete r s).fault = s.fault := rfl

@[simp] theorem complete_evq (r : Res) (s : State) :
    (complete r s).evq = s.evq := rfl

@[simp] theorem complete_env (r : Res) (s : State) :
    (complete r s).env = s.env := rfl

/-! ### emitAll -/

@[simp] theorem emitAll_tsMode (recs : List Event) (s : State) :
    (emitAll recs s).tsMode = s.tsMode := rfl

@[simp] theorem emitAll_seq (recs : List Event) (s : State) :
    (emitAll recs s).seq = s.seq := rfl

@[simp] theorem emitAll_frame (recs : List Event) (s : State) :
    (emitAll recs s).frame = s.frame := rfl

@[simp] theorem emitAll_frameLen (recs : List Event) (s : State) :
    (emitAll recs s).frameLen = s.frameLen := rfl

@[simp] theorem emitAll_frameValid (recs : List Event) (s : State) :
    (emitAll recs s).frameValid = s.frameValid := rfl

@[simp] theorem emitAll_pExpected (recs : List Event) (s : State) :
    (emitAll recs s).pExpected = s.pExpected := rfl

@[simp] theorem emitAll_pMax (recs : List Event) (s : State) :
    (emitAll recs s).pMax = s.pMax := rfl

@[simp] theorem emitAll_pTries (recs : List Event) (s : State) :
    (emitAll recs s).pTries = s.pTries := rfl

@[simp] theorem emitAll_cmd (recs : List Event) (s : State) :
    (emitAll recs s).cmd = s.cmd := rfl

@[simp] theorem emitAll_busy (recs : List Event) (s : State) :
    (emitAll recs s).busy = s.busy := rfl

@[simp] theorem emitAll_status (recs : List Event) (s : State) :
    (emitAll recs s).status = setStatusEvcnt recs.length s.status := rfl

@[simp] theorem emitAll_fault (recs : List Event) (s : State) :
    (emitAll recs s).fault = s.fault := rfl

@[simp] theorem emitAll_evq (recs : List Event) (s : State) :
    (emitAll recs s).evq = s.evq ++ recs := rfl

@[simp] theorem emitAll_env (recs : List Event) (s : State) :
    (emitAll recs s).env = s.env := rfl

/-! ### raiseFault -/

@[simp] theorem raiseFault_tsMode (f : ModelFault) (s : State) :
    (raiseFault f s).tsMode = s.tsMode := rfl

@[simp] theorem raiseFault_seq (f : ModelFault) (s : State) :
    (raiseFault f s).seq = .halted := rfl

@[simp] theorem raiseFault_frame (f : ModelFault) (s : State) :
    (raiseFault f s).frame = s.frame := rfl

@[simp] theorem raiseFault_frameLen (f : ModelFault) (s : State) :
    (raiseFault f s).frameLen = s.frameLen := rfl

@[simp] theorem raiseFault_frameValid (f : ModelFault) (s : State) :
    (raiseFault f s).frameValid = s.frameValid := rfl

@[simp] theorem raiseFault_pExpected (f : ModelFault) (s : State) :
    (raiseFault f s).pExpected = s.pExpected := rfl

@[simp] theorem raiseFault_pMax (f : ModelFault) (s : State) :
    (raiseFault f s).pMax = s.pMax := rfl

@[simp] theorem raiseFault_pTries (f : ModelFault) (s : State) :
    (raiseFault f s).pTries = s.pTries := rfl

@[simp] theorem raiseFault_cmd (f : ModelFault) (s : State) :
    (raiseFault f s).cmd = s.cmd := rfl

@[simp] theorem raiseFault_busy (f : ModelFault) (s : State) :
    (raiseFault f s).busy = s.busy := rfl

@[simp] theorem raiseFault_status (f : ModelFault) (s : State) :
    (raiseFault f s).status = setStatusHalt (setStatusRes .faulted s.status) := rfl

@[simp] theorem raiseFault_fault (f : ModelFault) (s : State) :
    (raiseFault f s).fault = setFaultBit f s.fault := rfl

@[simp] theorem raiseFault_evq (f : ModelFault) (s : State) :
    (raiseFault f s).evq = s.evq := rfl

@[simp] theorem raiseFault_env (f : ModelFault) (s : State) :
    (raiseFault f s).env = s.env := rfl

/-! ### acceptCommand -/

@[simp] theorem acceptCommand_tsMode (w : Word) (s : State) :
    (acceptCommand w s).tsMode = s.tsMode := rfl

@[simp] theorem acceptCommand_seq (w : Word) (s : State) :
    (acceptCommand w s).seq = s.seq := rfl

@[simp] theorem acceptCommand_frame (w : Word) (s : State) :
    (acceptCommand w s).frame = s.frame := rfl

@[simp] theorem acceptCommand_frameLen (w : Word) (s : State) :
    (acceptCommand w s).frameLen = s.frameLen := rfl

@[simp] theorem acceptCommand_frameValid (w : Word) (s : State) :
    (acceptCommand w s).frameValid = s.frameValid := rfl

@[simp] theorem acceptCommand_pExpected (w : Word) (s : State) :
    (acceptCommand w s).pExpected = s.pExpected := rfl

@[simp] theorem acceptCommand_pMax (w : Word) (s : State) :
    (acceptCommand w s).pMax = s.pMax := rfl

@[simp] theorem acceptCommand_pTries (w : Word) (s : State) :
    (acceptCommand w s).pTries = s.pTries := rfl

@[simp] theorem acceptCommand_cmd (w : Word) (s : State) :
    (acceptCommand w s).cmd = w := rfl

@[simp] theorem acceptCommand_busy (w : Word) (s : State) :
    (acceptCommand w s).busy = true := rfl

@[simp] theorem acceptCommand_status (w : Word) (s : State) :
    (acceptCommand w s).status = s.status := rfl

@[simp] theorem acceptCommand_fault (w : Word) (s : State) :
    (acceptCommand w s).fault = s.fault := rfl

@[simp] theorem acceptCommand_evq (w : Word) (s : State) :
    (acceptCommand w s).evq = s.evq := rfl

@[simp] theorem acceptCommand_env (w : Word) (s : State) :
    (acceptCommand w s).env = s.env := rfl

/-! ### dispatchTo -/

@[simp] theorem dispatchTo_tsMode (q : Seq) (s : State) :
    (dispatchTo q s).tsMode = s.tsMode := rfl

@[simp] theorem dispatchTo_seq (q : Seq) (s : State) :
    (dispatchTo q s).seq = q := rfl

@[simp] theorem dispatchTo_frame (q : Seq) (s : State) :
    (dispatchTo q s).frame = s.frame := rfl

@[simp] theorem dispatchTo_frameLen (q : Seq) (s : State) :
    (dispatchTo q s).frameLen = s.frameLen := rfl

@[simp] theorem dispatchTo_frameValid (q : Seq) (s : State) :
    (dispatchTo q s).frameValid = s.frameValid := rfl

@[simp] theorem dispatchTo_pExpected (q : Seq) (s : State) :
    (dispatchTo q s).pExpected = s.pExpected := rfl

@[simp] theorem dispatchTo_pMax (q : Seq) (s : State) :
    (dispatchTo q s).pMax = s.pMax := rfl

@[simp] theorem dispatchTo_pTries (q : Seq) (s : State) :
    (dispatchTo q s).pTries = s.pTries := rfl

@[simp] theorem dispatchTo_cmd (q : Seq) (s : State) :
    (dispatchTo q s).cmd = s.cmd := rfl

@[simp] theorem dispatchTo_busy (q : Seq) (s : State) :
    (dispatchTo q s).busy = s.busy := rfl

@[simp] theorem dispatchTo_status (q : Seq) (s : State) :
    (dispatchTo q s).status =
      setStatusTries 0 (setStatusEvcnt 0 (setStatusXfer .none s.status)) := rfl

@[simp] theorem dispatchTo_fault (q : Seq) (s : State) :
    (dispatchTo q s).fault = s.fault := rfl

@[simp] theorem dispatchTo_evq (q : Seq) (s : State) :
    (dispatchTo q s).evq = [] := rfl

@[simp] theorem dispatchTo_env (q : Seq) (s : State) :
    (dispatchTo q s).env = s.env := rfl

/-! ### withInputs -/

@[simp] theorem withInputs_tsMode (rest : List Input) (s : State) :
    (withInputs rest s).tsMode = s.tsMode := rfl

@[simp] theorem withInputs_seq (rest : List Input) (s : State) :
    (withInputs rest s).seq = s.seq := rfl

@[simp] theorem withInputs_frame (rest : List Input) (s : State) :
    (withInputs rest s).frame = s.frame := rfl

@[simp] theorem withInputs_frameLen (rest : List Input) (s : State) :
    (withInputs rest s).frameLen = s.frameLen := rfl

@[simp] theorem withInputs_frameValid (rest : List Input) (s : State) :
    (withInputs rest s).frameValid = s.frameValid := rfl

@[simp] theorem withInputs_pExpected (rest : List Input) (s : State) :
    (withInputs rest s).pExpected = s.pExpected := rfl

@[simp] theorem withInputs_pMax (rest : List Input) (s : State) :
    (withInputs rest s).pMax = s.pMax := rfl

@[simp] theorem withInputs_pTries (rest : List Input) (s : State) :
    (withInputs rest s).pTries = s.pTries := rfl

@[simp] theorem withInputs_cmd (rest : List Input) (s : State) :
    (withInputs rest s).cmd = s.cmd := rfl

@[simp] theorem withInputs_busy (rest : List Input) (s : State) :
    (withInputs rest s).busy = s.busy := rfl

@[simp] theorem withInputs_status (rest : List Input) (s : State) :
    (withInputs rest s).status = s.status := rfl

@[simp] theorem withInputs_fault (rest : List Input) (s : State) :
    (withInputs rest s).fault = s.fault := rfl

@[simp] theorem withInputs_evq (rest : List Input) (s : State) :
    (withInputs rest s).evq = s.evq := rfl

@[simp] theorem withInputs_env (rest : List Input) (s : State) :
    (withInputs rest s).env = { s.env with inputs := rest } := rfl

/-! ### deliver -/

@[simp] theorem deliver_tsMode (r : Res) (recs : List Event) (s : State) :
    (deliver r recs s).tsMode = s.tsMode := rfl

@[simp] theorem deliver_seq (r : Res) (recs : List Event) (s : State) :
    (deliver r recs s).seq = .idle := rfl

@[simp] theorem deliver_frame (r : Res) (recs : List Event) (s : State) :
    (deliver r recs s).frame = s.frame := rfl

@[simp] theorem deliver_frameLen (r : Res) (recs : List Event) (s : State) :
    (deliver r recs s).frameLen = s.frameLen := rfl

@[simp] theorem deliver_frameValid (r : Res) (recs : List Event) (s : State) :
    (deliver r recs s).frameValid = false := rfl

@[simp] theorem deliver_pExpected (r : Res) (recs : List Event) (s : State) :
    (deliver r recs s).pExpected = s.pExpected := rfl

@[simp] theorem deliver_pMax (r : Res) (recs : List Event) (s : State) :
    (deliver r recs s).pMax = s.pMax := rfl

@[simp] theorem deliver_pTries (r : Res) (recs : List Event) (s : State) :
    (deliver r recs s).pTries = s.pTries := rfl

@[simp] theorem deliver_cmd (r : Res) (recs : List Event) (s : State) :
    (deliver r recs s).cmd = s.cmd := rfl

@[simp] theorem deliver_busy (r : Res) (recs : List Event) (s : State) :
    (deliver r recs s).busy = false := rfl

@[simp] theorem deliver_status (r : Res) (recs : List Event) (s : State) :
    (deliver r recs s).status =
      setStatusRes r (setStatusEvcnt recs.length (setStatusFv false s.status)) := rfl

@[simp] theorem deliver_fault (r : Res) (recs : List Event) (s : State) :
    (deliver r recs s).fault = s.fault := rfl

@[simp] theorem deliver_evq (r : Res) (recs : List Event) (s : State) :
    (deliver r recs s).evq = s.evq ++ recs := rfl

@[simp] theorem deliver_env (r : Res) (recs : List Event) (s : State) :
    (deliver r recs s).env = s.env := rfl

/-! ### takeEvents -/

@[simp] theorem takeEvents_tsMode (s : State) :
    (takeEvents s).tsMode = s.tsMode := rfl

@[simp] theorem takeEvents_seq (s : State) :
    (takeEvents s).seq = s.seq := rfl

@[simp] theorem takeEvents_frame (s : State) :
    (takeEvents s).frame = s.frame := rfl

@[simp] theorem takeEvents_frameLen (s : State) :
    (takeEvents s).frameLen = s.frameLen := rfl

@[simp] theorem takeEvents_frameValid (s : State) :
    (takeEvents s).frameValid = s.frameValid := rfl

@[simp] theorem takeEvents_pExpected (s : State) :
    (takeEvents s).pExpected = s.pExpected := rfl

@[simp] theorem takeEvents_pMax (s : State) :
    (takeEvents s).pMax = s.pMax := rfl

@[simp] theorem takeEvents_pTries (s : State) :
    (takeEvents s).pTries = s.pTries := rfl

@[simp] theorem takeEvents_cmd (s : State) :
    (takeEvents s).cmd = s.cmd := rfl

@[simp] theorem takeEvents_busy (s : State) :
    (takeEvents s).busy = s.busy := rfl

@[simp] theorem takeEvents_status (s : State) :
    (takeEvents s).status = s.status := rfl

@[simp] theorem takeEvents_fault (s : State) :
    (takeEvents s).fault = s.fault := rfl

@[simp] theorem takeEvents_evq (s : State) :
    (takeEvents s).evq = s.evq := rfl

@[simp] theorem takeEvents_env (s : State) :
    (takeEvents s).env = { s.env with consumerReads := s.env.consumerReads ++ [s.evq] } := rfl

/-! ### tFreeze -/

@[simp] theorem tFreeze_tsMode (s : State) :
    (tFreeze s).tsMode = .outLow := rfl

@[simp] theorem tFreeze_seq (s : State) :
    (tFreeze s).seq = .tDrain := rfl

@[simp] theorem tFreeze_frame (s : State) :
    (tFreeze s).frame = s.frame := rfl

@[simp] theorem tFreeze_frameLen (s : State) :
    (tFreeze s).frameLen = s.frameLen := rfl

@[simp] theorem tFreeze_frameValid (s : State) :
    (tFreeze s).frameValid = s.frameValid := rfl

@[simp] theorem tFreeze_pExpected (s : State) :
    (tFreeze s).pExpected = s.pExpected := rfl

@[simp] theorem tFreeze_pMax (s : State) :
    (tFreeze s).pMax = s.pMax := rfl

@[simp] theorem tFreeze_pTries (s : State) :
    (tFreeze s).pTries = s.pTries := rfl

@[simp] theorem tFreeze_cmd (s : State) :
    (tFreeze s).cmd = s.cmd := rfl

@[simp] theorem tFreeze_busy (s : State) :
    (tFreeze s).busy = s.busy := rfl

@[simp] theorem tFreeze_status (s : State) :
    (tFreeze s).status = s.status := rfl

@[simp] theorem tFreeze_fault (s : State) :
    (tFreeze s).fault = s.fault := rfl

@[simp] theorem tFreeze_evq (s : State) :
    (tFreeze s).evq = s.evq := rfl

@[simp] theorem tFreeze_env (s : State) :
    (tFreeze s).env = s.env := rfl

/-! ### blockReset -/

@[simp] theorem blockReset_tsMode (s : State) : (blockReset s).tsMode = State.reset.tsMode := rfl

@[simp] theorem blockReset_seq (s : State) : (blockReset s).seq = State.reset.seq := rfl

@[simp] theorem blockReset_frame (s : State) : (blockReset s).frame = State.reset.frame := rfl

@[simp] theorem blockReset_frameLen (s : State) : (blockReset s).frameLen = State.reset.frameLen := rfl

@[simp] theorem blockReset_frameValid (s : State) : (blockReset s).frameValid = State.reset.frameValid := rfl

@[simp] theorem blockReset_pExpected (s : State) : (blockReset s).pExpected = State.reset.pExpected := rfl

@[simp] theorem blockReset_pMax (s : State) : (blockReset s).pMax = State.reset.pMax := rfl

@[simp] theorem blockReset_pTries (s : State) : (blockReset s).pTries = State.reset.pTries := rfl

@[simp] theorem blockReset_cmd (s : State) : (blockReset s).cmd = State.reset.cmd := rfl

@[simp] theorem blockReset_busy (s : State) : (blockReset s).busy = State.reset.busy := rfl

@[simp] theorem blockReset_status (s : State) : (blockReset s).status = State.reset.status := rfl

@[simp] theorem blockReset_fault (s : State) : (blockReset s).fault = State.reset.fault := rfl

@[simp] theorem blockReset_evq (s : State) : (blockReset s).evq = State.reset.evq := rfl

@[simp] theorem blockReset_env (s : State) : (blockReset s).env = s.env := rfl

/-! ### The bytes and the outcome a state shows -/

@[simp] theorem setFrameValid_heldBytes (b : Bool) (s : State) :
    heldBytes (setFrameValid b s) = heldBytes s := rfl

@[simp] theorem setXfer_heldBytes (x : Xfer) (s : State) :
    heldBytes (setXfer x s) = heldBytes s := rfl

@[simp] theorem setTries_heldBytes (n : Byte) (s : State) :
    heldBytes (setTries n s) = heldBytes s := rfl

@[simp] theorem goto_heldBytes (q : Seq) (s : State) :
    heldBytes (goto q s) = heldBytes s := rfl

@[simp] theorem goto_xferOf (q : Seq) (s : State) : xferOf (goto q s) = xferOf s := rfl

@[simp] theorem complete_heldBytes (r : Res) (s : State) :
    heldBytes (complete r s) = heldBytes s := rfl

@[simp] theorem emitAll_heldBytes (recs : List Event) (s : State) :
    heldBytes (emitAll recs s) = heldBytes s := rfl

@[simp] theorem raiseFault_heldBytes (f : ModelFault) (s : State) :
    heldBytes (raiseFault f s) = heldBytes s := rfl

@[simp] theorem acceptCommand_heldBytes (w : Word) (s : State) :
    heldBytes (acceptCommand w s) = heldBytes s := rfl

@[simp] theorem acceptCommand_xferOf (w : Word) (s : State) : xferOf (acceptCommand w s) = xferOf s := rfl

@[simp] theorem dispatchTo_heldBytes (q : Seq) (s : State) :
    heldBytes (dispatchTo q s) = heldBytes s := rfl

@[simp] theorem withInputs_heldBytes (rest : List Input) (s : State) :
    heldBytes (withInputs rest s) = heldBytes s := rfl

@[simp] theorem withInputs_xferOf (rest : List Input) (s : State) : xferOf (withInputs rest s) = xferOf s := rfl

@[simp] theorem deliver_heldBytes (r : Res) (recs : List Event) (s : State) :
    heldBytes (deliver r recs s) = heldBytes s := rfl

@[simp] theorem takeEvents_heldBytes (s : State) :
    heldBytes (takeEvents s) = heldBytes s := rfl

@[simp] theorem takeEvents_xferOf (s : State) : xferOf (takeEvents s) = xferOf s := rfl

@[simp] theorem tFreeze_heldBytes (s : State) :
    heldBytes (tFreeze s) = heldBytes s := rfl

@[simp] theorem tFreeze_xferOf (s : State) : xferOf (tFreeze s) = xferOf s := rfl

/-! ### The draws change the environment only -/

@[simp] theorem sampleLine_tsMode (s : State) : (sampleLine s).2.tsMode = s.tsMode := by
  unfold sampleLine; split <;> rfl

@[simp] theorem sampleLine_seq (s : State) : (sampleLine s).2.seq = s.seq := by
  unfold sampleLine; split <;> rfl

@[simp] theorem sampleLine_frame (s : State) : (sampleLine s).2.frame = s.frame := by
  unfold sampleLine; split <;> rfl

@[simp] theorem sampleLine_frameLen (s : State) : (sampleLine s).2.frameLen = s.frameLen := by
  unfold sampleLine; split <;> rfl

@[simp] theorem sampleLine_frameValid (s : State) : (sampleLine s).2.frameValid = s.frameValid := by
  unfold sampleLine; split <;> rfl

@[simp] theorem sampleLine_pExpected (s : State) : (sampleLine s).2.pExpected = s.pExpected := by
  unfold sampleLine; split <;> rfl

@[simp] theorem sampleLine_pMax (s : State) : (sampleLine s).2.pMax = s.pMax := by
  unfold sampleLine; split <;> rfl

@[simp] theorem sampleLine_pTries (s : State) : (sampleLine s).2.pTries = s.pTries := by
  unfold sampleLine; split <;> rfl

@[simp] theorem sampleLine_cmd (s : State) : (sampleLine s).2.cmd = s.cmd := by
  unfold sampleLine; split <;> rfl

@[simp] theorem sampleLine_busy (s : State) : (sampleLine s).2.busy = s.busy := by
  unfold sampleLine; split <;> rfl

@[simp] theorem sampleLine_status (s : State) : (sampleLine s).2.status = s.status := by
  unfold sampleLine; split <;> rfl

@[simp] theorem sampleLine_fault (s : State) : (sampleLine s).2.fault = s.fault := by
  unfold sampleLine; split <;> rfl

@[simp] theorem sampleLine_evq (s : State) : (sampleLine s).2.evq = s.evq := by
  unfold sampleLine; split <;> rfl

@[simp] theorem sampleLine_inputs (s : State) : (sampleLine s).2.env.inputs = s.env.inputs := by
  unfold sampleLine; split <;> rfl

@[simp] theorem sampleLine_devBlock (s : State) : (sampleLine s).2.env.devBlock = s.env.devBlock := by
  unfold sampleLine; split <;> rfl

@[simp] theorem sampleLine_hostWrite (s : State) : (sampleLine s).2.env.hostWrite = s.env.hostWrite := by
  unfold sampleLine; split <;> rfl

@[simp] theorem sampleLine_consumerReads (s : State) : (sampleLine s).2.env.consumerReads = s.env.consumerReads := by
  unfold sampleLine; split <;> rfl

@[simp] theorem memRead_tsMode (s : State) : (memRead s).2.tsMode = s.tsMode := by
  unfold memRead; split <;> rfl

@[simp] theorem memRead_seq (s : State) : (memRead s).2.seq = s.seq := by
  unfold memRead; split <;> rfl

@[simp] theorem memRead_frame (s : State) : (memRead s).2.frame = s.frame := by
  unfold memRead; split <;> rfl

@[simp] theorem memRead_frameLen (s : State) : (memRead s).2.frameLen = s.frameLen := by
  unfold memRead; split <;> rfl

@[simp] theorem memRead_frameValid (s : State) : (memRead s).2.frameValid = s.frameValid := by
  unfold memRead; split <;> rfl

@[simp] theorem memRead_pExpected (s : State) : (memRead s).2.pExpected = s.pExpected := by
  unfold memRead; split <;> rfl

@[simp] theorem memRead_pMax (s : State) : (memRead s).2.pMax = s.pMax := by
  unfold memRead; split <;> rfl

@[simp] theorem memRead_pTries (s : State) : (memRead s).2.pTries = s.pTries := by
  unfold memRead; split <;> rfl

@[simp] theorem memRead_cmd (s : State) : (memRead s).2.cmd = s.cmd := by
  unfold memRead; split <;> rfl

@[simp] theorem memRead_busy (s : State) : (memRead s).2.busy = s.busy := by
  unfold memRead; split <;> rfl

@[simp] theorem memRead_status (s : State) : (memRead s).2.status = s.status := by
  unfold memRead; split <;> rfl

@[simp] theorem memRead_fault (s : State) : (memRead s).2.fault = s.fault := by
  unfold memRead; split <;> rfl

@[simp] theorem memRead_evq (s : State) : (memRead s).2.evq = s.evq := by
  unfold memRead; split <;> rfl

@[simp] theorem memRead_inputs (s : State) : (memRead s).2.env.inputs = s.env.inputs := by
  unfold memRead; split <;> rfl

@[simp] theorem memRead_devBlock (s : State) : (memRead s).2.env.devBlock = s.env.devBlock := by
  unfold memRead; split <;> rfl

@[simp] theorem memRead_hostWrite (s : State) : (memRead s).2.env.hostWrite = s.env.hostWrite := by
  unfold memRead; split <;> rfl

@[simp] theorem memRead_consumerReads (s : State) : (memRead s).2.env.consumerReads = s.env.consumerReads := by
  unfold memRead; split <;> rfl

@[simp] theorem writeAnswer_tsMode (s : State) : (writeAnswer s).2.tsMode = s.tsMode := by
  unfold writeAnswer; split <;> rfl

@[simp] theorem writeAnswer_seq (s : State) : (writeAnswer s).2.seq = s.seq := by
  unfold writeAnswer; split <;> rfl

@[simp] theorem writeAnswer_frame (s : State) : (writeAnswer s).2.frame = s.frame := by
  unfold writeAnswer; split <;> rfl

@[simp] theorem writeAnswer_frameLen (s : State) : (writeAnswer s).2.frameLen = s.frameLen := by
  unfold writeAnswer; split <;> rfl

@[simp] theorem writeAnswer_frameValid (s : State) : (writeAnswer s).2.frameValid = s.frameValid := by
  unfold writeAnswer; split <;> rfl

@[simp] theorem writeAnswer_pExpected (s : State) : (writeAnswer s).2.pExpected = s.pExpected := by
  unfold writeAnswer; split <;> rfl

@[simp] theorem writeAnswer_pMax (s : State) : (writeAnswer s).2.pMax = s.pMax := by
  unfold writeAnswer; split <;> rfl

@[simp] theorem writeAnswer_pTries (s : State) : (writeAnswer s).2.pTries = s.pTries := by
  unfold writeAnswer; split <;> rfl

@[simp] theorem writeAnswer_cmd (s : State) : (writeAnswer s).2.cmd = s.cmd := by
  unfold writeAnswer; split <;> rfl

@[simp] theorem writeAnswer_busy (s : State) : (writeAnswer s).2.busy = s.busy := by
  unfold writeAnswer; split <;> rfl

@[simp] theorem writeAnswer_status (s : State) : (writeAnswer s).2.status = s.status := by
  unfold writeAnswer; split <;> rfl

@[simp] theorem writeAnswer_fault (s : State) : (writeAnswer s).2.fault = s.fault := by
  unfold writeAnswer; split <;> rfl

@[simp] theorem writeAnswer_evq (s : State) : (writeAnswer s).2.evq = s.evq := by
  unfold writeAnswer; split <;> rfl

@[simp] theorem writeAnswer_inputs (s : State) : (writeAnswer s).2.env.inputs = s.env.inputs := by
  unfold writeAnswer; split <;> rfl

@[simp] theorem writeAnswer_devBlock (s : State) : (writeAnswer s).2.env.devBlock = s.env.devBlock := by
  unfold writeAnswer; split <;> rfl

@[simp] theorem writeAnswer_hostWrite (s : State) : (writeAnswer s).2.env.hostWrite = s.env.hostWrite := by
  unfold writeAnswer; split <;> rfl

@[simp] theorem writeAnswer_consumerReads (s : State) : (writeAnswer s).2.env.consumerReads = s.env.consumerReads := by
  unfold writeAnswer; split <;> rfl

end Sys2Proof.Machine
end

