-- ==== Sys2Proof/Laws/Ops.lean ====
section
/-! SUPPORT. For each shared operation, one lemma that says once everything it can do. -/

namespace Sys2Proof.Machine

/-! ### Draws -/

theorem sampleLine_cases (s : State) :
    (∃ l rest, s.env.lineDraws = l :: rest ∧
      sampleLine s = (l, { s with env := { s.env with lineDraws := rest } })) ∨
    (s.env.lineDraws = [] ∧
      sampleLine s = (Config.lineLevel s.env.drawNo,
        { s with env := { s.env with drawNo := s.env.drawNo + 1 } })) := by
  unfold sampleLine
  cases h : s.env.lineDraws with
  | nil => exact .inr ⟨rfl, rfl⟩
  | cons l rest => exact .inl ⟨l, rest, rfl, rfl⟩

theorem memRead_cases (s : State) :
    (∃ r rest, s.env.readDraws = r :: rest ∧
      memRead s = (r, { s with env := { s.env with readDraws := rest } })) ∨
    (s.env.readDraws = [] ∧
      memRead s = (Config.readAnswer s.env.drawNo,
        { s with env := { s.env with drawNo := s.env.drawNo + 1 } })) := by
  unfold memRead
  cases h : s.env.readDraws with
  | nil => exact .inr ⟨rfl, rfl⟩
  | cons r rest => exact .inl ⟨r, rest, rfl, rfl⟩

theorem writeAnswer_cases (s : State) :
    (∃ r rest, s.env.writeDraws = r :: rest ∧
      writeAnswer s = (r, { s with env := { s.env with writeDraws := rest } })) ∨
    (s.env.writeDraws = [] ∧
      writeAnswer s = (Config.writeAnswer s.env.drawNo,
        { s with env := { s.env with drawNo := s.env.drawNo + 1 } })) := by
  unfold writeAnswer
  cases h : s.env.writeDraws with
  | nil => exact .inr ⟨rfl, rfl⟩
  | cons r rest => exact .inl ⟨r, rest, rfl, rfl⟩

/-- A sample leaves every register as it was. -/
theorem sampleLine_registers (s : State) :
    (sampleLine s).2 = { s with env := (sampleLine s).2.env } := by
  unfold sampleLine; split <;> rfl

/-- A read leaves every register as it was. -/
theorem memRead_registers (s : State) : (memRead s).2 = { s with env := (memRead s).2.env } := by
  unfold memRead; split <;> rfl

/-- A block write changes the environment only. -/
theorem memWrite_registers (b : Block) (s : State) :
    memWrite b s = { s with env := (memWrite b s).env } := by
  unfold memWrite writeAnswer
  cases s.env.writeDraws with
  | nil => dsimp only; cases Config.writeAnswer s.env.drawNo <;> rfl
  | cons r rest => cases r <;> rfl

/-! ### TSEQ -/

theorem tReady_next {exit : State → Out} {s t : State} (h : tReady exit s = .next t) :
    s.tsMode = .inPu ∧
      (((sampleLine (setFrameValid false s)).1 = .high ∧
          exit (setXfer .noFrame (sampleLine (setFrameValid false s)).2) = .next t) ∨
        ((sampleLine (setFrameValid false s)).1 = .low ∧
          t = goto .tFreeze (sampleLine (setFrameValid false s)).2)) := by
  unfold tReady at h
  cases hm : s.tsMode with
  | outLow => simp [hm] at h
  | inPu =>
    simp only [hm] at h
    refine ⟨rfl, ?_⟩
    cases hs : sampleLine (setFrameValid false s) with
    | mk l s' =>
      rw [hs] at h
      cases l with
      | high => exact .inl ⟨rfl, h⟩
      | low =>
        simp only [Host.Outcome.next.injEq] at h
        exact .inr ⟨rfl, h.symm⟩

theorem tDrain_cases (s : State) :
    (∃ b, (memRead s).1 = .ok b ∧
      tDrain s = goto .tRelease (setXfer .frame
        (setFrameValid true { (memRead s).2 with frame := b, frameLen := 32 }))) ∨
    ((memRead s).1 = .busError ∧
      tDrain s = goto .tRelease (setXfer .busError (memRead s).2)) := by
  unfold tDrain
  cases h : memRead s with
  | mk r s' =>
    cases r with
    | ok b => exact .inl ⟨b, rfl, rfl⟩
    | busError => exact .inr ⟨rfl, rfl⟩

theorem exitTryReadFrame_next {s t : State} (h : exitTryReadFrame s = .next t) :
    (xferOf s = .frame ∧ t = complete .frame s) ∨
    (xferOf s = .noFrame ∧ t = complete .noFrame s) ∨
    (xferOf s = .busError ∧ t = complete .busError s) := by
  unfold exitTryReadFrame at h
  cases hx : xferOf s <;> simp_all

theorem exitPollOnce_cases (s : State) :
    (xferOf s = .frame ∧ exitPollOnce s = .next (goto .dDecode s)) ∨
    (xferOf s ≠ .frame ∧ exitPollOnce s = .next (complete .pollDone s)) := by
  unfold exitPollOnce
  cases hx : xferOf s <;> simp

/-! ### SAP -/

theorem pAttempt_next {s t : State} (h : pAttempt s = .next t) :
    s.pTries < s.pMax ∧ t = goto .tReady (setTries (s.pTries + 1) s) := by
  unfold pAttempt at h
  split at h
  · exact ⟨‹_›, by simpa using h.symm⟩
  · simp at h

theorem pMatch_cases (s : State) :
    (xferOf s = .busError ∧ pMatch s = complete .busError s) ∨
    (xferOf s = .frame ∧ isAck (heldBytes s) s.pExpected = true ∧
      pMatch s = complete .ack (setFrameValid false s)) ∨
    (xferOf s ≠ .busError ∧ ¬(xferOf s = .frame ∧ isAck (heldBytes s) s.pExpected = true) ∧
      ((s.pTries = s.pMax ∧ pMatch s = complete .timeout (setFrameValid false s)) ∨
       (s.pTries ≠ s.pMax ∧ pMatch s = goto .pInterval (setFrameValid false s)))) := by
  unfold pMatch
  split
  · exact .inl ⟨‹_›, rfl⟩
  · split
    · rename_i h
      exact .inr (.inl ⟨h.1, h.2, rfl⟩)
    · refine .inr (.inr ⟨‹_›, ‹_›, ?_⟩)
      split
      · exact .inl ⟨‹_›, rfl⟩
      · exact .inr ⟨‹_›, rfl⟩

theorem pInterval_cases (s : State) :
    (∃ rest, s.env.inputs = .tick :: rest ∧ pInterval s = goto .pAttempt (withInputs rest s)) ∨
    ((∀ rest, s.env.inputs ≠ .tick :: rest) ∧ pInterval s = s) := by
  unfold pInterval waitTick
  cases h : s.env.inputs with
  | nil => exact .inr ⟨by simp, rfl⟩
  | cons i rest =>
    cases i with
    | tick => exact .inl ⟨rest, rfl, rfl⟩
    | spb => exact .inr ⟨by simp, rfl⟩
    | command w => exact .inr ⟨by simp, rfl⟩
    | blockWrite b => exact .inr ⟨by simp, rfl⟩
    | consumer => exact .inr ⟨by simp, rfl⟩
    | blockReset => exact .inr ⟨by simp, rfl⟩

/-! ### FDEC -/

theorem dDecode_cases (done : Res → Res) (s : State) :
    (s.frameValid = false ∧ dDecode done s = .next (raiseFault .decodeEmpty s)) ∨
    (s.frameValid = true ∧ dec machineParams (heldBytes s) = .shortSensor ∧
      dDecode done s = .next (raiseFault .shortSensor s)) ∨
    (∃ cls recs, s.frameValid = true ∧ dec machineParams (heldBytes s) = .decoded cls recs ∧
      dDecode done s = .next (deliver (done cls) recs s)) := by
  unfold dDecode
  cases hv : s.frameValid with
  | false => exact .inl ⟨rfl, by simp⟩
  | true =>
    cases hd : dec machineParams (heldBytes s) with
    | shortSensor => exact .inr (.inl ⟨rfl, rfl, by simp⟩)
    | decoded cls recs => exact .inr (.inr ⟨cls, recs, rfl, rfl, by simp⟩)

theorem decodeRow_next {row : Row} {s t : State} (h : decodeRow row s = .next t) :
    s.seq = .dDecode ∧ ∃ done, runningDone s.cmd = some done ∧
      ((s.frameValid = true ∧ t = deliver (done row.1) row.2 s) ∨
       (s.frameValid = false ∧ t = raiseFault .decodeEmpty s)) := by
  unfold decodeRow at h
  cases hq : s.seq <;> simp only [hq, reduceCtorEq] at h
  cases hd : runningDone s.cmd with
  | none => simp [hd] at h
  | some done =>
    simp only [hd] at h
    refine ⟨rfl, done, rfl, ?_⟩
    cases hv : s.frameValid with
    | true => exact .inl ⟨rfl, by simpa [hv] using h.symm⟩
    | false => exact .inr ⟨rfl, by simpa [hv] using h.symm⟩

/-! ### The Consumer -/

/-- When the Consumer may read. -/
theorem consumerReady_iff (s : State) :
    consumerReady s = true ↔ s.seq = .idle ∨ s.seq = .halted := by
  cases hq : s.seq <;> simp [consumerReady, hq]

/-- A read of `evq` changes the environment only. -/
theorem takeEvents_registers (s : State) :
    takeEvents s = { s with env := (takeEvents s).env } := rfl

/-! ### The scheduler -/

theorem spbTurn_next {s t : State} (h : spbTurn s = .next t) :
    s.seq ≠ .halted ∧
      ((s.seq = .idle ∧ s.busy = false ∧ t = s) ∨
       (¬(s.seq = .idle ∧ s.busy = false) ∧ exec (decodeCommand s.cmd) s = .next t)) := by
  unfold spbTurn at h
  cases hq : s.seq <;> cases hb : s.busy <;> simp_all

/-- Everything one step can do: the move of the agent at the head of the inputs, or the block's
turn. -/
theorem step_cases (s : State) :
    (s.env.inputs = [] ∧ step s = spbTurn s) ∨
    (∃ rest, s.env.inputs = .spb :: rest ∧ step s = spbTurn (withInputs rest s)) ∨
    (∃ rest, s.env.inputs = .blockReset :: rest ∧
      step s = .next (blockReset (withInputs rest s))) ∨
    (∃ rest, s.env.inputs = .tick :: rest ∧
      ((s.seq = .pInterval ∧ step s = spbTurn s) ∨
       (s.seq ≠ .pInterval ∧ step s = .next (withInputs rest s)))) ∨
    (∃ w rest, s.env.inputs = .command w :: rest ∧
      ((commanderReady s = true ∧ step s = .next (acceptCommand w (withInputs rest s))) ∨
       (commanderReady s = false ∧ step s = spbTurn s))) ∨
    (∃ b rest, s.env.inputs = .blockWrite b :: rest ∧
      ((s.busy = true ∧ step s = spbTurn s) ∨
       (s.busy = false ∧ step s = blockWriteTurn b (withInputs rest s)))) ∨
    (∃ rest, s.env.inputs = .consumer :: rest ∧
      ((consumerReady s = true ∧ step s = .next (takeEvents (withInputs rest s))) ∨
       (consumerReady s = false ∧ step s = spbTurn s))) := by
  unfold step advance
  cases h : s.env.inputs with
  | nil => exact .inl ⟨rfl, rfl⟩
  | cons i rest =>
    cases i with
    | spb => exact .inr (.inl ⟨rest, rfl, rfl⟩)
    | blockReset => exact .inr (.inr (.inl ⟨rest, rfl, rfl⟩))
    | tick =>
      refine .inr (.inr (.inr (.inl ⟨rest, rfl, ?_⟩)))
      by_cases hq : s.seq = .pInterval
      · exact .inl ⟨hq, by simp [hq]⟩
      · exact .inr ⟨hq, by simp [hq]⟩
    | command w =>
      refine .inr (.inr (.inr (.inr (.inl ⟨w, rest, rfl, ?_⟩))))
      cases hc : commanderReady s
      · exact .inr ⟨rfl, by simp⟩
      · exact .inl ⟨rfl, by simp⟩
    | blockWrite b =>
      refine .inr (.inr (.inr (.inr (.inr (.inl ⟨b, rest, rfl, ?_⟩)))))
      cases hb : s.busy
      · exact .inr ⟨rfl, by simp⟩
      · exact .inl ⟨rfl, by simp⟩
    | consumer =>
      refine .inr (.inr (.inr (.inr (.inr (.inr ⟨rest, rfl, ?_⟩)))))
      cases hc : consumerReady s
      · exact .inr ⟨rfl, by simp⟩
      · exact .inl ⟨rfl, by simp⟩

end Sys2Proof.Machine
end

