-- ==== Sys2Proof/Laws/Decode.lean ====
section
/-! SUPPORT. The decoder of frames against the pure function `Dec`: both read a frame the same way. -/

namespace Sys2Proof.Machine

/-- The class and the records of a FRAME row; a command or a block has none. -/
def frameRow (p : Params) : Instr → Option Row
  | .frameShort _ => some rowShort
  | .frameSystemStatus _ => some rowSystemStatus
  | .frameFirmwareVersion text => some (rowFirmwareVersion text)
  | .frameSensorData f => some (rowSensorData p f)
  | .frameRequestMsg => some rowRequestMsg
  | .frameUnknown _ => some rowUnknown
  | .tryReadFrame => none
  | .awaitStatus _ _ => none
  | .decode => none
  | .pollOnce => none
  | .illegalCommand _ => none
  | .setRuntimeBlock _ _ _ => none

/-- A frame that decodes to an instruction has that row's class and records. -/
theorem dec_of_decodeFrame_ok {p : Params} {b : List Byte} {i : Instr}
    (h : decodeFrame b = .ok i) : ∃ r, frameRow p i = some r ∧ dec p b = .decoded r.1 r.2 := by
  unfold decodeFrame at h
  unfold dec
  split at h
  · cases h
  split at h
  · cases h; rw [if_pos ‹_›]; exact ⟨_, rfl, rfl⟩
  rw [if_neg ‹_›]
  split at h
  · rw [if_pos ‹_›]
    split at h
    · cases h
    · cases h; rw [if_neg ‹_›]; exact ⟨_, rfl, rfl⟩
  rw [if_neg ‹_›]
  split at h
  · cases h; rw [if_pos ‹_›]; exact ⟨_, rfl, rfl⟩
  rw [if_neg ‹_›]
  split at h
  · cases h; rw [if_pos ‹_›]; exact ⟨_, rfl, rfl⟩
  rw [if_neg ‹_›]
  split at h
  · cases h; rw [if_pos ‹_›]; exact ⟨_, rfl, rfl⟩
  · cases h; rw [if_neg ‹_›]; exact ⟨_, rfl, rfl⟩

/-- The meaning of a FRAME row is the D_DECODE step with that row's class and records. -/
theorem exec_frameRow {i : Instr} {r : Row} (s : State) (h : frameRow machineParams i = some r) :
    exec i s = decodeRow r s := by
  cases i with
  | frameShort len => cases h; rfl
  | frameSystemStatus c => cases h; rfl
  | frameFirmwareVersion text => cases h; rfl
  | frameSensorData f => cases h; rfl
  | frameRequestMsg => cases h; rfl
  | frameUnknown identifier => cases h; rfl
  | tryReadFrame => cases h
  | awaitStatus exp maxt => cases h
  | decode => cases h
  | pollOnce => cases h
  | illegalCommand w => cases h
  | setRuntimeBlock a p q => cases h

/-- A frame of 32 bytes is never ShortSensor. -/
theorem dec_window (p : Params) {b : List Byte} (h : b.length = 32) : dec p b ≠ .shortSensor := by
  unfold dec ofRow
  have h1 : ¬ b.length < 4 := by omega
  have h2 : ¬ b.length < 26 := by omega
  rw [if_neg h1, if_neg h2]
  split
  · simp
  split
  · simp
  split
  · simp
  split <;> simp

/-! ### The encoder's records -/

theorem posRecords_length (t : TieMode) (f : SensorFields) : (posRecords t f).length ≤ 1 := by
  unfold posRecords; split <;> simp

theorem unmappedGesture_length (p : GestureUnmapped) (g : Byte) :
    (unmappedGesture p g).length ≤ 1 := by cases p <;> simp [unmappedGesture]

theorem gesRecords_length (p : GestureUnmapped) (f : SensorFields) :
    (gesRecords p f).length ≤ 1 := by
  unfold gesRecords
  split
  · split
    · simp
    · exact unmappedGesture_length _ _
  · simp

theorem tchRecords_length (f : SensorFields) : (tchRecords f).length ≤ 1 := by
  unfold tchRecords
  split
  · split <;> simp
  · simp

theorem awlRecords_length (f : SensorFields) : (awlRecords f).length ≤ 1 := by
  unfold awlRecords; split <;> simp

end Sys2Proof.Machine
end

