-- ==== Sys2Proof/Laws/PerInstr.lean ====
section
/-! SUPPORT. Statements for all instructions, one lemma per constructor. The family `EncodedForm` says
in which of the three formats of the opcode table an instruction is encoded, and in how many bytes. -/

namespace Sys2Proof.Laws

/-- The formats of spec/opcode_table.json. -/
inductive Format where
  | cmd
  | frame
  | cmdBlock
  deriving DecidableEq, Repr

/-- The format of an instruction's row. -/
def Format.ofInstr : Instr → Format
  | .tryReadFrame => .cmd
  | .awaitStatus _ _ => .cmd
  | .decode => .cmd
  | .pollOnce => .cmd
  | .illegalCommand _ => .cmd
  | .frameShort _ => .frame
  | .frameSystemStatus _ => .frame
  | .frameFirmwareVersion _ => .frame
  | .frameSensorData _ => .frame
  | .frameRequestMsg => .frame
  | .frameUnknown _ => .frame
  | .setRuntimeBlock _ _ _ => .cmdBlock

/-- The bits are of the format, at a length it allows: a command is one word (R80), a frame at most 32
bytes (R16, R60), a command block exactly 15 (R76). -/
def Fits : Format → Image → Prop
  | .cmd, .command _ => True
  | .frame, .frame b => b.length ≤ 32
  | .cmdBlock, .block b => b.length = 15
  | _, _ => False

namespace EncodedForm

/-- A well-formed instruction is encoded in the format of its row. -/
def Statement (i : Instr) : Prop := i.wellFormed = true → Fits (Format.ofInstr i) (encode i)

theorem tryReadFrame : Statement .tryReadFrame := fun _ => trivial

theorem awaitStatus (exp maxt : Byte) : Statement (.awaitStatus exp maxt) := fun _ => trivial

theorem decode : Statement .decode := fun _ => trivial

theorem pollOnce : Statement .pollOnce := fun _ => trivial

theorem illegalCommand (word : Word) : Statement (.illegalCommand word) := fun _ => trivial

theorem frameShort (len : BitVec 4) : Statement (.frameShort len) := by
  intro h
  have h' : len.toNat < 4 := by simpa [Instr.wellFormed] using h
  show (zeros len.toNat).length ≤ 32
  rw [zeros, List.length_replicate]
  omega

theorem frameSystemStatus (commandId : Option Byte) : Statement (.frameSystemStatus commandId) := by
  intro _
  cases commandId with
  | none => show 4 ≤ 32; decide
  | some c => show 32 ≤ 32; decide

theorem frameFirmwareVersion (text : List Byte) : Statement (.frameFirmwareVersion text) := by
  intro h
  have h' : text.length ≤ 20 := by simpa [Instr.wellFormed] using h
  show (frameHeader idFirmwareVersion ++ zeros 8 ++ text).length ≤ 32
  rw [List.length_append]
  show 12 + text.length ≤ 32
  omega

theorem frameSensorData (fields : SensorFields) : Statement (.frameSensorData fields) := by
  intro _
  show 32 ≤ 32
  decide

theorem frameRequestMsg : Statement .frameRequestMsg := by
  intro _
  show 32 ≤ 32
  decide

theorem frameUnknown (identifier : Byte) : Statement (.frameUnknown identifier) := by
  intro _
  show 32 ≤ 32
  decide

theorem setRuntimeBlock (argAddr : Byte) (arg0 arg1 : BitVec 32) :
    Statement (.setRuntimeBlock argAddr arg0 arg1) := fun _ => rfl

end EncodedForm

end Sys2Proof.Laws
end

