-- ==== Sys2Proof/Laws/Status.lean ====
section
/-! SUPPORT. Reading a field of STATUS after writing one, and the reserved bits. -/

namespace Sys2Proof.Machine

theorem getLsbD_setBits {n : Nat} (w : Word) (lo : Nat) (v : BitVec n) (i : Nat) :
    (setBits w lo v).getLsbD i =
      if i < 32 ∧ lo ≤ i ∧ i < lo + n then v.getLsbD (i - lo) else w.getLsbD i := by
  unfold setBits
  by_cases h : i < 32
  · by_cases h1 : lo ≤ i
    · by_cases h2 : i - lo < n
      · have : i < lo + n := by omega
        simp [h, h1, h2, this, Nat.not_lt.mpr h1]
      · have h3 : ¬ i < lo + n := by omega
        have h4 : v.getLsbD (i - lo) = false := BitVec.getLsbD_of_ge v _ (by omega)
        simp [h, h1, h3, h2, h4]
    · have h4 : i < lo := by omega
      simp [h, h1, h4]
  · have h5 : w.getLsbD i = false := BitVec.getLsbD_of_ge w i (by omega)
    simp [h, h5]

/-- A field reads what was last written to it. -/
theorem getBits_setBits_same {n : Nat} (w : Word) (lo : Nat) (v : BitVec n) (h : lo + n ≤ 32) :
    getBits (setBits w lo v) lo n = v := by
  apply BitVec.eq_of_getLsbD_eq
  intro i hi
  rw [getBits, BitVec.getLsbD_extractLsb', getLsbD_setBits, if_pos (by omega)]
  simp [hi]

/-- Writing one field leaves a field with no bit in common. -/
theorem getBits_setBits_disjoint {n : Nat} (w : Word) (lo lo' n' : Nat) (v : BitVec n)
    (h : lo + n ≤ lo' ∨ lo' + n' ≤ lo) :
    getBits (setBits w lo v) lo' n' = getBits w lo' n' := by
  apply BitVec.eq_of_getLsbD_eq
  intro i hi
  have : ¬ (lo' + i < 32 ∧ lo ≤ lo' + i ∧ lo' + i < lo + n) := by omega
  rw [getBits, getBits, BitVec.getLsbD_extractLsb', BitVec.getLsbD_extractLsb', getLsbD_setBits,
    if_neg this]

/-- Writing a field keeps every bit of a mask that has none of the field's bits. -/
theorem setBits_and_mask {n : Nat} (w m : Word) (lo : Nat) (v : BitVec n)
    (h : ∀ i, i < n → m.getLsbD (lo + i) = false) : setBits w lo v &&& m = w &&& m := by
  apply BitVec.eq_of_getLsbD_eq
  intro i _
  simp only [BitVec.getLsbD_and, getLsbD_setBits]
  by_cases hc : i < 32 ∧ lo ≤ i ∧ i < lo + n
  · have hm : m.getLsbD i = false := by
      have h2 := h (i - lo) (by omega)
      rwa [Nat.add_sub_cancel' hc.2.1] at h2
    simp [hm]
  · rw [if_neg hc]

@[simp] theorem xfer_ofCode_code (x : Xfer) : Xfer.ofCode x.code = x := by cases x <;> rfl

@[simp] theorem statusRes_setStatusRes (r : Res) (w : Word) :
    statusRes (setStatusRes r w) = r.code := getBits_setBits_same _ _ _ (by decide)

@[simp] theorem statusXfer_setStatusRes (r : Res) (w : Word) :
    statusXfer (setStatusRes r w) = statusXfer w := by
  unfold statusXfer setStatusRes
  rw [getBits_setBits_disjoint _ _ _ _ _ (by decide)]

@[simp] theorem statusEvcnt_setStatusRes (r : Res) (w : Word) :
    statusEvcnt (setStatusRes r w) = statusEvcnt w := by
  unfold statusEvcnt setStatusRes
  rw [getBits_setBits_disjoint _ _ _ _ _ (by decide)]

@[simp] theorem statusTries_setStatusRes (r : Res) (w : Word) :
    statusTries (setStatusRes r w) = statusTries w := by
  unfold statusTries setStatusRes
  rw [getBits_setBits_disjoint _ _ _ _ _ (by decide)]

@[simp] theorem statusFv_setStatusRes (r : Res) (w : Word) :
    statusFv (setStatusRes r w) = statusFv w := by
  unfold statusFv setStatusRes
  rw [getBits_setBits_disjoint _ _ _ _ _ (by decide)]

@[simp] theorem statusHalt_setStatusRes (r : Res) (w : Word) :
    statusHalt (setStatusRes r w) = statusHalt w := by
  unfold statusHalt setStatusRes
  rw [getBits_setBits_disjoint _ _ _ _ _ (by decide)]

@[simp] theorem setStatusRes_reserved (r : Res) (w : Word) :
    setStatusRes r w &&& statusReserved = w &&& statusReserved :=
  setBits_and_mask _ _ _ _ (by decide)

@[simp] theorem statusRes_setStatusXfer (x : Xfer) (w : Word) :
    statusRes (setStatusXfer x w) = statusRes w := by
  unfold statusRes setStatusXfer
  rw [getBits_setBits_disjoint _ _ _ _ _ (by decide)]

@[simp] theorem statusXfer_setStatusXfer (x : Xfer) (w : Word) :
    statusXfer (setStatusXfer x w) = x := by
  unfold statusXfer setStatusXfer
  rw [getBits_setBits_same _ _ _ (by decide), xfer_ofCode_code]

@[simp] theorem statusEvcnt_setStatusXfer (x : Xfer) (w : Word) :
    statusEvcnt (setStatusXfer x w) = statusEvcnt w := by
  unfold statusEvcnt setStatusXfer
  rw [getBits_setBits_disjoint _ _ _ _ _ (by decide)]

@[simp] theorem statusTries_setStatusXfer (x : Xfer) (w : Word) :
    statusTries (setStatusXfer x w) = statusTries w := by
  unfold statusTries setStatusXfer
  rw [getBits_setBits_disjoint _ _ _ _ _ (by decide)]

@[simp] theorem statusFv_setStatusXfer (x : Xfer) (w : Word) :
    statusFv (setStatusXfer x w) = statusFv w := by
  unfold statusFv setStatusXfer
  rw [getBits_setBits_disjoint _ _ _ _ _ (by decide)]

@[simp] theorem statusHalt_setStatusXfer (x : Xfer) (w : Word) :
    statusHalt (setStatusXfer x w) = statusHalt w := by
  unfold statusHalt setStatusXfer
  rw [getBits_setBits_disjoint _ _ _ _ _ (by decide)]

@[simp] theorem setStatusXfer_reserved (x : Xfer) (w : Word) :
    setStatusXfer x w &&& statusReserved = w &&& statusReserved :=
  setBits_and_mask _ _ _ _ (by decide)

@[simp] theorem statusRes_setStatusEvcnt (n : Nat) (w : Word) :
    statusRes (setStatusEvcnt n w) = statusRes w := by
  unfold statusRes setStatusEvcnt
  rw [getBits_setBits_disjoint _ _ _ _ _ (by decide)]

@[simp] theorem statusXfer_setStatusEvcnt (n : Nat) (w : Word) :
    statusXfer (setStatusEvcnt n w) = statusXfer w := by
  unfold statusXfer setStatusEvcnt
  rw [getBits_setBits_disjoint _ _ _ _ _ (by decide)]

@[simp] theorem statusEvcnt_setStatusEvcnt (n : Nat) (w : Word) :
    statusEvcnt (setStatusEvcnt n w) = BitVec.ofNat 3 n := getBits_setBits_same _ _ _ (by decide)

@[simp] theorem statusTries_setStatusEvcnt (n : Nat) (w : Word) :
    statusTries (setStatusEvcnt n w) = statusTries w := by
  unfold statusTries setStatusEvcnt
  rw [getBits_setBits_disjoint _ _ _ _ _ (by decide)]

@[simp] theorem statusFv_setStatusEvcnt (n : Nat) (w : Word) :
    statusFv (setStatusEvcnt n w) = statusFv w := by
  unfold statusFv setStatusEvcnt
  rw [getBits_setBits_disjoint _ _ _ _ _ (by decide)]

@[simp] theorem statusHalt_setStatusEvcnt (n : Nat) (w : Word) :
    statusHalt (setStatusEvcnt n w) = statusHalt w := by
  unfold statusHalt setStatusEvcnt
  rw [getBits_setBits_disjoint _ _ _ _ _ (by decide)]

@[simp] theorem setStatusEvcnt_reserved (n : Nat) (w : Word) :
    setStatusEvcnt n w &&& statusReserved = w &&& statusReserved :=
  setBits_and_mask _ _ _ _ (by decide)

@[simp] theorem statusRes_setStatusTries (n : Byte) (w : Word) :
    statusRes (setStatusTries n w) = statusRes w := by
  unfold statusRes setStatusTries
  rw [getBits_setBits_disjoint _ _ _ _ _ (by decide)]

@[simp] theorem statusXfer_setStatusTries (n : Byte) (w : Word) :
    statusXfer (setStatusTries n w) = statusXfer w := by
  unfold statusXfer setStatusTries
  rw [getBits_setBits_disjoint _ _ _ _ _ (by decide)]

@[simp] theorem statusEvcnt_setStatusTries (n : Byte) (w : Word) :
    statusEvcnt (setStatusTries n w) = statusEvcnt w := by
  unfold statusEvcnt setStatusTries
  rw [getBits_setBits_disjoint _ _ _ _ _ (by decide)]

@[simp] theorem statusTries_setStatusTries (n : Byte) (w : Word) :
    statusTries (setStatusTries n w) = n := getBits_setBits_same _ _ _ (by decide)

@[simp] theorem statusFv_setStatusTries (n : Byte) (w : Word) :
    statusFv (setStatusTries n w) = statusFv w := by
  unfold statusFv setStatusTries
  rw [getBits_setBits_disjoint _ _ _ _ _ (by decide)]

@[simp] theorem statusHalt_setStatusTries (n : Byte) (w : Word) :
    statusHalt (setStatusTries n w) = statusHalt w := by
  unfold statusHalt setStatusTries
  rw [getBits_setBits_disjoint _ _ _ _ _ (by decide)]

@[simp] theorem setStatusTries_reserved (n : Byte) (w : Word) :
    setStatusTries n w &&& statusReserved = w &&& statusReserved :=
  setBits_and_mask _ _ _ _ (by decide)

@[simp] theorem statusRes_setStatusFv (b : Bool) (w : Word) :
    statusRes (setStatusFv b w) = statusRes w := by
  unfold statusRes setStatusFv
  rw [getBits_setBits_disjoint _ _ _ _ _ (by decide)]

@[simp] theorem statusXfer_setStatusFv (b : Bool) (w : Word) :
    statusXfer (setStatusFv b w) = statusXfer w := by
  unfold statusXfer setStatusFv
  rw [getBits_setBits_disjoint _ _ _ _ _ (by decide)]

@[simp] theorem statusEvcnt_setStatusFv (b : Bool) (w : Word) :
    statusEvcnt (setStatusFv b w) = statusEvcnt w := by
  unfold statusEvcnt setStatusFv
  rw [getBits_setBits_disjoint _ _ _ _ _ (by decide)]

@[simp] theorem statusTries_setStatusFv (b : Bool) (w : Word) :
    statusTries (setStatusFv b w) = statusTries w := by
  unfold statusTries setStatusFv
  rw [getBits_setBits_disjoint _ _ _ _ _ (by decide)]

@[simp] theorem statusFv_setStatusFv (b : Bool) (w : Word) :
    statusFv (setStatusFv b w) = b := by
  unfold statusFv setStatusFv
  rw [getBits_setBits_same _ _ _ (by decide)]
  cases b <;> rfl

@[simp] theorem statusHalt_setStatusFv (b : Bool) (w : Word) :
    statusHalt (setStatusFv b w) = statusHalt w := by
  unfold statusHalt setStatusFv
  rw [getBits_setBits_disjoint _ _ _ _ _ (by decide)]

@[simp] theorem setStatusFv_reserved (b : Bool) (w : Word) :
    setStatusFv b w &&& statusReserved = w &&& statusReserved :=
  setBits_and_mask _ _ _ _ (by decide)

@[simp] theorem statusRes_setStatusHalt (w : Word) :
    statusRes (setStatusHalt w) = statusRes w := by
  unfold statusRes setStatusHalt
  rw [getBits_setBits_disjoint _ _ _ _ _ (by decide)]

@[simp] theorem statusXfer_setStatusHalt (w : Word) :
    statusXfer (setStatusHalt w) = statusXfer w := by
  unfold statusXfer setStatusHalt
  rw [getBits_setBits_disjoint _ _ _ _ _ (by decide)]

@[simp] theorem statusEvcnt_setStatusHalt (w : Word) :
    statusEvcnt (setStatusHalt w) = statusEvcnt w := by
  unfold statusEvcnt setStatusHalt
  rw [getBits_setBits_disjoint _ _ _ _ _ (by decide)]

@[simp] theorem statusTries_setStatusHalt (w : Word) :
    statusTries (setStatusHalt w) = statusTries w := by
  unfold statusTries setStatusHalt
  rw [getBits_setBits_disjoint _ _ _ _ _ (by decide)]

@[simp] theorem statusFv_setStatusHalt (w : Word) :
    statusFv (setStatusHalt w) = statusFv w := by
  unfold statusFv setStatusHalt
  rw [getBits_setBits_disjoint _ _ _ _ _ (by decide)]

@[simp] theorem statusHalt_setStatusHalt (w : Word) :
    statusHalt (setStatusHalt w) = true := by
  unfold statusHalt setStatusHalt
  rw [getBits_setBits_same _ _ _ (by decide)]
  rfl

@[simp] theorem setStatusHalt_reserved (w : Word) :
    setStatusHalt w &&& statusReserved = w &&& statusReserved :=
  setBits_and_mask _ _ _ _ (by decide)

/-! ### The bits of FAULT -/

/-- A model fault sets its own bit and keeps every other. -/
theorem getLsbD_setFaultBit (f : ModelFault) (w : Word) (i : Nat) :
    (setFaultBit f w).getLsbD i = (decide (i = f.bit) || w.getLsbD i) := by
  have hb : f.bit < 32 := by cases f <;> decide
  rw [setFaultBit, getLsbD_setBits]
  by_cases h : i = f.bit
  · subst h; simp [hb]
  · rw [if_neg (by omega)]; simp [h]

end Sys2Proof.Machine
end

