-- ==== Sys2Proof/Laws/Step.lean ====
section
/-! SUPPORT. The block's own turn, said once: which commands CMD can hold, and for each sequencer state
what the running command's step can do. -/

namespace Sys2Proof.Machine

/-- CMD holds one of the five command rows. -/
theorem decodeCommand_cases (w : Word) :
    decodeCommand w = .illegalCommand w ∨ decodeCommand w = .tryReadFrame ∨
    decodeCommand w = .awaitStatus (cmdExp w) (cmdMaxt w) ∨
    decodeCommand w = .decode ∨ decodeCommand w = .pollOnce := by
  unfold decodeCommand
  split; · exact .inl rfl
  split; · exact .inr (.inr (.inl rfl))
  split; · exact .inl rfl
  split; · exact .inr (.inl rfl)
  split; · exact .inr (.inr (.inr (.inl rfl)))
  split
  · exact .inr (.inr (.inr (.inr rfl)))
  · exact .inl rfl

/-- The operand of an illegal command is the word itself. -/
theorem decodeCommand_illegal {w v : Word} (h : decodeCommand w = .illegalCommand v) : v = w := by
  rcases decodeCommand_cases w with hc | hc | hc | hc | hc <;> rw [hc] at h <;> cases h
  rfl

/-- A block that decodes is a SET_RUNTIME block. -/
theorem decodeBlock_ok {b : List Byte} {i : Instr} (h : decodeBlock b = .ok i) :
    ∃ a p q, i = .setRuntimeBlock a p q := by
  unfold decodeBlock at h
  split at h; · cases h
  split at h; · cases h
  split at h
  · cases h; exact ⟨_, _, _, rfl⟩
  · cases h

/-- What a command's step can do, for the sequencer state it is taken in. -/
inductive Turn (s t : State) : Prop where
  /-- A legal dispatch (R82). -/
  | dispatch (q : Seq) (hs : s.seq = .idle) (hq : q = .tReady ∨ q = .pStart ∨ q = .dDecode)
      (hc : decodeCommand s.cmd ≠ .illegalCommand s.cmd) (ht : t = dispatchTo q s)
  /-- The dispatch of an illegal command (R82). -/
  | illegal (hs : s.seq = .idle) (hc : decodeCommand s.cmd = .illegalCommand s.cmd)
      (ht : t = raiseFault .illegalCommand s)
  /-- T_READY with the line high: the command completes with r (R102, R106). -/
  | readyDone (r : Res) (hs : s.seq = .tReady) (hr : r = .noFrame ∨ r = .pollDone)
      (hl : (sampleLine (setFrameValid false s)).1 = .high)
      (ht : t = complete r (setXfer .noFrame (sampleLine (setFrameValid false s)).2))
  /-- T_READY with the line high in a wait (R102, R106). -/
  | readyMatch (hs : s.seq = .tReady) (hl : (sampleLine (setFrameValid false s)).1 = .high)
      (ht : t = goto .pMatch (setXfer .noFrame (sampleLine (setFrameValid false s)).2))
  /-- T_READY with the line low (R102). -/
  | readyFreeze (hs : s.seq = .tReady) (hl : (sampleLine (setFrameValid false s)).1 = .low)
      (ht : t = goto .tFreeze (sampleLine (setFrameValid false s)).2)
  /-- T_FREEZE (R103). -/
  | freeze (hs : s.seq = .tFreeze) (ht : t = tFreeze s)
  /-- T_DRAIN (R104). -/
  | drain (hs : s.seq = .tDrain) (ht : t = tDrain s)
  /-- T_RELEASE of a command that completes with r (R105, R106). -/
  | releaseDone (r : Res) (hs : s.seq = .tRelease) (ht : t = complete r { s with tsMode := .inPu })
  /-- T_RELEASE of a command that goes on (R105, R106). -/
  | releaseOn (q : Seq) (hs : s.seq = .tRelease) (hq : q = .pMatch ∨ q = .dDecode)
      (ht : t = goto q { s with tsMode := .inPu })
  /-- P_START (R121). -/
  | start (e m : Byte) (hs : s.seq = .pStart) (hc : decodeCommand s.cmd = .awaitStatus e m)
      (ht : t = pStart e m s)
  /-- P_ATTEMPT (R122). -/
  | attempt (hs : s.seq = .pAttempt) (hp : s.pTries < s.pMax)
      (ht : t = goto .tReady (setTries (s.pTries + 1) s))
  /-- P_MATCH (R123). -/
  | poll (hs : s.seq = .pMatch) (ht : t = pMatch s)
  /-- P_INTERVAL (R125). -/
  | interval (hs : s.seq = .pInterval) (ht : t = pInterval s)
  /-- D_DECODE with no frame held (R140). -/
  | decodeEmpty (hs : s.seq = .dDecode) (hv : s.frameValid = false)
      (ht : t = raiseFault .decodeEmpty s)
  /-- D_DECODE of a short sensor frame (R140, R144). -/
  | shortSensor (hs : s.seq = .dDecode) (hv : s.frameValid = true)
      (hd : dec machineParams (heldBytes s) = .shortSensor) (ht : t = raiseFault .shortSensor s)
  /-- D_DECODE that completes (R140). -/
  | deliver (r cls : Res) (recs : List Event) (hs : s.seq = .dDecode) (hv : s.frameValid = true)
      (hr : r = cls ∨ r = .pollDone)
      (hc : decodeCommand s.cmd = .decode ∨ decodeCommand s.cmd = .pollOnce)
      (hd : dec machineParams (heldBytes s) = .decoded cls recs)
      (ht : t = deliver r recs s)

theorem tReady_turn {exit : State → Out} {s t : State} (hs : s.seq = .tReady)
    (hx : exit = exitTryReadFrame ∨ exit = exitAwaitStatus ∨ exit = exitPollOnce)
    (h : tReady exit s = .next t) : Turn s t := by
  obtain ⟨-, ⟨hl, h⟩ | ⟨hl, h⟩⟩ := tReady_next h
  · rcases hx with rfl | rfl | rfl
    · rcases exitTryReadFrame_next h with ⟨hf, h⟩ | ⟨-, h⟩ | ⟨hf, h⟩
      · simp [xferOf] at hf
      · exact .readyDone _ hs (.inl rfl) hl h
      · simp [xferOf] at hf
    · exact .readyMatch hs hl (by simpa [exitAwaitStatus] using h.symm)
    · rcases exitPollOnce_cases (setXfer .noFrame (sampleLine (setFrameValid false s)).2) with
        ⟨hf, -⟩ | ⟨-, h'⟩
      · simp [xferOf] at hf
      · rw [h'] at h
        exact .readyDone _ hs (.inr rfl) hl (Host.Outcome.next.inj h).symm
  · exact .readyFreeze hs hl h

theorem tRelease_turn {exit : State → Out} {s t : State} (hs : s.seq = .tRelease)
    (hx : exit = exitTryReadFrame ∨ exit = exitAwaitStatus ∨ exit = exitPollOnce)
    (h : tRelease exit s = .next t) : Turn s t := by
  unfold tRelease at h
  rcases hx with rfl | rfl | rfl
  · rcases exitTryReadFrame_next h with ⟨-, h⟩ | ⟨-, h⟩ | ⟨-, h⟩ <;> exact .releaseDone _ hs h
  · exact .releaseOn _ hs (.inl rfl) (by simpa [exitAwaitStatus] using h.symm)
  · rcases exitPollOnce_cases { s with tsMode := .inPu } with ⟨-, h'⟩ | ⟨-, h'⟩ <;> rw [h'] at h
    · exact .releaseOn _ hs (.inr rfl) (Host.Outcome.next.inj h).symm
    · exact .releaseDone _ hs (Host.Outcome.next.inj h).symm

theorem dDecode_turn {done : Res → Res} {s t : State} (hs : s.seq = .dDecode)
    (hc : decodeCommand s.cmd = .decode ∨ decodeCommand s.cmd = .pollOnce)
    (hx : ∀ r, done r = r ∨ done r = .pollDone) (h : dDecode done s = .next t) : Turn s t := by
  rcases dDecode_cases done s with ⟨hv, h'⟩ | ⟨hv, hd, h'⟩ | ⟨cls, recs, hv, hd, h'⟩ <;>
    rw [h'] at h
  · exact .decodeEmpty hs hv (Host.Outcome.next.inj h).symm
  · exact .shortSensor hs hv hd (Host.Outcome.next.inj h).symm
  · exact .deliver _ cls recs hs hv (hx cls) hc hd (Host.Outcome.next.inj h).symm

/-- Everything the running command's step can do. -/
theorem exec_turn {s t : State} (h : exec (decodeCommand s.cmd) s = .next t) : Turn s t := by
  rcases decodeCommand_cases s.cmd with hc | hc | hc | hc | hc <;> rw [hc] at h
  · cases hq : s.seq <;> simp only [exec, execIllegalCommand, hq, reduceCtorEq] at h
    exact .illegal hq hc (Host.Outcome.next.inj h).symm
  · cases hq : s.seq <;> simp only [exec, execTryReadFrame, hq, reduceCtorEq] at h
    · exact .dispatch _ hq (.inl rfl) (by simp [hc]) (Host.Outcome.next.inj h).symm
    · exact tReady_turn hq (.inl rfl) h
    · exact .freeze hq (Host.Outcome.next.inj h).symm
    · exact .drain hq (Host.Outcome.next.inj h).symm
    · exact tRelease_turn hq (.inl rfl) h
  · cases hq : s.seq <;> simp only [exec, execAwaitStatus, hq, reduceCtorEq] at h
    · exact .dispatch _ hq (.inr (.inl rfl)) (by simp [hc]) (Host.Outcome.next.inj h).symm
    · exact tReady_turn hq (.inr (.inl rfl)) h
    · exact .freeze hq (Host.Outcome.next.inj h).symm
    · exact .drain hq (Host.Outcome.next.inj h).symm
    · exact tRelease_turn hq (.inr (.inl rfl)) h
    · exact .start _ _ hq hc (Host.Outcome.next.inj h).symm
    · obtain ⟨hp, ht⟩ := pAttempt_next h
      exact .attempt hq hp ht
    · exact .poll hq (Host.Outcome.next.inj h).symm
    · exact .interval hq (Host.Outcome.next.inj h).symm
  · cases hq : s.seq <;> simp only [exec, execDecode, hq, reduceCtorEq] at h
    · exact .dispatch _ hq (.inr (.inr rfl)) (by simp [hc]) (Host.Outcome.next.inj h).symm
    · exact dDecode_turn hq (.inl hc) (fun r => .inl rfl) h
  · cases hq : s.seq <;> simp only [exec, execPollOnce, hq, reduceCtorEq] at h
    · exact .dispatch _ hq (.inl rfl) (by simp [hc]) (Host.Outcome.next.inj h).symm
    · exact tReady_turn hq (.inr (.inr rfl)) h
    · exact .freeze hq (Host.Outcome.next.inj h).symm
    · exact .drain hq (Host.Outcome.next.inj h).symm
    · exact tRelease_turn hq (.inr (.inr rfl)) h
    · exact dDecode_turn hq (.inr hc) (fun r => .inr rfl) h

end Sys2Proof.Machine
end

