-- ==== Sys2Proof/Tests/Slice0.lean ====
section
/-! SUPPORT. The model's own tests: ill-formed terms that WellFormed refuses, words written out from the
spec's encodings, one-step vectors of spec/95_test_vectors.md, and for each statement with hypotheses a
state and operands that meet them. -/

namespace Sys2Proof.Tests

open Sys2Proof Sys2Proof.Machine

/-! ### Helpers -/

/-- The frame notation of spec/95: 0x00 everywhere but at the listed bytes. -/
def frameOf (l : List (Nat × Byte)) : List Byte :=
  (List.range 32).map fun i => (l.lookup i).getD 0

/-- A block at work on command w, in sequencer state q. -/
def running (q : Seq) (w : Word) : State := { State.reset with seq := q, busy := true, cmd := w }

/-- s with the 32 bytes held. -/
def holding (b : List Byte) (s : State) : State :=
  { setFrameValid true s with frame := windowOfList b, frameLen := 32 }

/-- s with the given levels and reads to come. -/
def drawing (levels : List Level) (reads : List ReadAnswer) (s : State) : State :=
  { s with env := { s.env with lineDraws := levels, readDraws := reads } }

/-- The outcome is a next state with the given property. -/
def nextSat (o : Out) (p : State → Bool) : Bool :=
  match o with
  | .next t => p t
  | .fault _ => false
  | .refused _ => false

/-- The acknowledgement of 0xA2 (spec/95, 2.3). -/
def ackFrame : List Byte := frameOf [(3, 0x15), (4, 0xA2)]

/-- The corrected end-to-end frame (spec/95, L1-10 (a)). -/
def fullFrame : List Byte :=
  [0x1E, 0x00, 0x00, 0x91, 0x1F, 0x00, 0x00, 0x03, 0x00, 0x00, 0x01, 0x00, 0x00, 0x00, 0x00, 0x00,
   0x00, 0x00, 0x10, 0x00, 0x80, 0x80, 0x80, 0x80, 0x80, 0x80, 0, 0, 0, 0, 0, 0]

/-! ### WellFormed refuses ill-formed terms -/

/-- A word with a row of its own is no illegal command (R81). -/
theorem test_wf_illegal_legal_word :
    (Instr.illegalCommand 0x00000001).wellFormed = false ∧
    (Instr.illegalCommand 0x000AA202).wellFormed = false ∧
    (Instr.illegalCommand 0x00000003).wellFormed = false ∧
    (Instr.illegalCommand 0x00000004).wellFormed = false := by decide

/-- A short frame has fewer than 4 bytes (R142). -/
theorem test_wf_short_four : (Instr.frameShort 4).wellFormed = false := by decide

/-- A firmware text has at most 20 bytes (R73). -/
theorem test_wf_text_too_long :
    (Instr.frameFirmwareVersion (List.replicate 21 0x31)).wellFormed = false := by decide

/-- An unknown frame has no identifier with a row of its own (R62, R63). -/
theorem test_wf_unknown_named :
    [0x15, 0x83, 0x91, 0x06].all (fun i => !(Instr.frameUnknown i).wellFormed) = true := by decide

/-! ### Words written out from the spec's encodings -/

/-- R81: OP = 0001, every other bit 0. -/
theorem test_decode_tryReadFrame :
    decodeCommand 0b0000_0000_0000_0000_0000_0000_0000_0001#32 = .tryReadFrame := by decide

/-- R80, R81, R83: OP = 0010, EXP = 0xA2, MAXT = 10 (the assembler's 0x000AA202). -/
theorem test_decode_awaitStatus :
    decodeCommand 0b0000_0000_0000_1010_1010_0010_0000_0010#32 = .awaitStatus 0xA2 10 := by decide

/-- R81: OP = 0011. -/
theorem test_decode_decode :
    decodeCommand 0b0000_0000_0000_0000_0000_0000_0000_0011#32 = .decode := by decide

/-- R81: OP = 0100. -/
theorem test_decode_pollOnce :
    decodeCommand 0b0000_0000_0000_0000_0000_0000_0000_0100#32 = .pollOnce := by decide

/-- The illegal words of spec/95, 2.1. -/
theorem test_decode_illegal :
    [0x00000000, 0x00000011, 0x00000101, 0x00010001, 0x000AA2F2, 0x010AA202, 0x00000005, 0x0000000F,
      0x80000004].all (fun w : Word => decodeCommand w == .illegalCommand w) = true := by decide

/-- R142: three bytes, whatever they hold. -/
theorem test_decode_frameShort :
    decodeFrame [0x91, 0x91, 0x91] = .ok (.frameShort 3) ∧ decodeFrame [] = .ok (.frameShort 0) := by
  decide

/-- R72: identifier 0x15, `payload[0]`. -/
theorem test_decode_frameSystemStatus :
    decodeFrame ackFrame = .ok (.frameSystemStatus (some 0xA2)) ∧
    decodeFrame [0, 0, 0, 0x15] = .ok (.frameSystemStatus none) := by decide

/-- R73: identifier 0x83, text from byte 12. -/
theorem test_decode_frameFirmwareVersion :
    decodeFrame ([0, 0, 0, 0x83, 0xFF, 0, 0, 0, 0, 0, 0, 0xEE] ++ [0x31, 0x32]) =
      .ok (.frameFirmwareVersion [0x31, 0x32]) := by decide

/-- R64: identifier 0x91, each field at its offset, ignored bytes set. -/
theorem test_decode_frameSensorData :
    decodeFrame [0xFF, 0xFF, 0xFF, 0x91, 0x1F, 0x20, 0xFF, 0x03, 0xFF, 0xFF, 0x07, 0xFF, 0xFF, 0xFF,
      0x08, 0xC8, 0xFF, 0xFF, 0x10, 0xFF, 0x01, 0x02, 0x03, 0x04, 0x05, 0x06] =
      .ok (.frameSensorData
        { configmask := 0x201F, sysinfo := 0x03, gesture := 0x07, touch := 0x4808,
          airwheel := 0x10, x := 0x0201, y := 0x0403, z := 0x0605 }) := by decide

/-- R63: identifier 0x06. -/
theorem test_decode_frameRequestMsg : decodeFrame (frameOf [(3, 0x06)]) = .ok .frameRequestMsg := by
  decide

/-- R63: any other identifier. -/
theorem test_decode_frameUnknown :
    decodeFrame (frameOf [(3, 0xA2)]) = .ok (.frameUnknown 0xA2) := by decide

/-- R76, R42: the 15 bytes of a SET_RUNTIME block. -/
theorem test_decode_setRuntimeBlock :
    decodeBlock [0, 0, 0xA2, 0x5A, 0, 0, 0, 0x20, 0, 0, 0, 0x04, 0x03, 0x02, 0x01] =
      .ok (.setRuntimeBlock 0x5A 0x00000020 0x01020304) := by decide

/-- Bytes that are no instruction are rejected by name (R76, R144). -/
theorem test_decode_rejects :
    decodeFrame [0, 0, 0, 0x91] = .error .shortSensor ∧
    decodeFrame (zeros 33) = .error .frameTooLong ∧
    decodeBlock (zeros 14) = .error .blockLength ∧
    decodeBlock (zeros 15) = .error .blockCommandId ∧
    decodeBlock [0, 1, 0xA2, 0, 0, 0, 0, 0, 0, 0, 0, 0, 0, 0, 0] = .error .blockPadding := by decide

/-- R80, R83: `AWAIT_STATUS 0xA2, 10` is 0x000AA202. -/
theorem test_encode_awaitStatus :
    encode (.awaitStatus 0xA2 10) = .command 0x000AA202 ∧
    encode (.awaitStatus 21 3) = .command 0x00031502 := by decide

/-- The assembler lines of spec/95, 2.1. -/
theorem test_assembler :
    assembleLine "AWAIT_STATUS 0xA2".toList = .ok (.awaitStatus 0xA2 10) ∧
    assembleLine "AWAIT_STATUS 21, 3 ; any".toList = .ok (.awaitStatus 21 3) ∧
    assembleLine "AWAIT_STATUS 0x100, 1".toList = .error .operandRange ∧
    assembleLine "POLL_ONCE".toList = .ok .pollOnce := by decide

/-! ### One step of each instruction -/

/-- spec/95 T2, last step: FRAME, the line released. -/
theorem test_tryReadFrame_release :
    nextSat (exec .tryReadFrame
      { holding ackFrame (running .tRelease 1) with tsMode := .outLow, status := 0x01000010 })
      (fun t => t.status == 0x01000011 && t.tsMode == .inPu && t.seq == .idle && !t.busy) = true := by
  decide

/-- spec/95 T4: the earlier frame is dropped when the line is high. -/
theorem test_tryReadFrame_high :
    nextSat (exec .tryReadFrame (drawing [.high] [] (holding ackFrame (running .tReady 1))))
      (fun t => t.status == 0x00000022 && !t.frameValid && t.seq == .idle) = true := by decide

/-- spec/95 S3: a match on the last attempt is ACK, not TIMEOUT. -/
theorem test_awaitStatus_last_match :
    nextSat (exec (.awaitStatus 0xA2 3)
      { holding ackFrame (running .pMatch 0x0003A202) with
        pExpected := 0xA2, pMax := 3, pTries := 3, status := 0x01030010 })
      (fun t => t.status == 0x00030014 && !t.frameValid && t.seq == .idle) = true := by decide

/-- spec/95 S8: a BusError on the last attempt is BUS_ERROR, not TIMEOUT. -/
theorem test_awaitStatus_last_error :
    nextSat (exec (.awaitStatus 0xA2 2)
      { running .pMatch 0x0002A202 with pExpected := 0xA2, pMax := 2, pTries := 2,
                                        status := 0x00020030 })
      (fun t => t.status == 0x00020033 && t.seq == .idle) = true := by decide

/-- spec/95 D8: the full sensor frame, three records in order. -/
theorem test_decode_full :
    nextSat (exec .decode (holding fullFrame (running .dDecode 3)))
      (fun t => t.status == 0x00000306 && !t.frameValid && t.evq ==
        [.position 0x8080 0x8080 0x8080 5020 5020 5020, .gesture 1 .garbage, .airwheel 0x10]) =
      true := by decide +kernel

/-- spec/95 D11: no frame held. -/
theorem test_decode_empty :
    nextSat (exec .decode (running .dDecode 3))
      (fun t => t.status == 0x8000000F && t.fault == 2 && t.seq == .halted && t.busy) = true := by
  decide

/-- R201: POLL_ONCE absorbs a BusError. -/
theorem test_pollOnce_error :
    nextSat (exec .pollOnce
      { running .tRelease 4 with tsMode := .outLow, status := 0x00000030 })
      (fun t => t.status == 0x0000003B && t.tsMode == .inPu && t.seq == .idle) = true := by decide

/-- R200: POLL_ONCE goes on to decode the frame it read. -/
theorem test_pollOnce_frame :
    nextSat (exec .pollOnce
      { holding ackFrame (running .tRelease 4) with tsMode := .outLow, status := 0x01000010 })
      (fun t => t.seq == .dDecode && t.busy && t.frameValid) = true := by decide

/-- spec/95, 2.1: an illegal command keeps XFER, EVCNT and TRIES, and `evq`. -/
theorem test_illegalCommand :
    nextSat (exec (.illegalCommand 5)
      { running .idle 5 with status := 0x00030314, evq := [.airwheel 5] })
      (fun t => t.status == 0x8003031F && t.fault == 1 && t.evq == [.airwheel 5] && t.cmd == 5) =
      true := by decide

/-- R142, under DECODE. -/
theorem test_frameShort :
    nextSat (exec (.frameShort 3) (holding ackFrame (running .dDecode 3)))
      (fun t => t.status == 0x0000000A && t.evq == []) = true := by decide

/-- spec/95 D1. -/
theorem test_frameSystemStatus :
    nextSat (exec (.frameSystemStatus (some 0xA2)) (holding ackFrame (running .dDecode 3)))
      (fun t => t.status == 0x00000007 && t.evq == []) = true := by decide

/-- spec/95 D2: "1.0" and 17 bytes of 0x00. -/
theorem test_frameFirmwareVersion :
    nextSat (exec (.frameFirmwareVersion ([0x31, 0x2E, 0x30] ++ zeros 17))
      (holding ackFrame (running .dDecode 3)))
      (fun t => t.status == 0x00000108 &&
        t.evq == [.firmware ([0x31, 0x2E, 0x30] ++ zeros 17) 3]) = true := by decide

/-- spec/95, 2.5, first row, under POLL_ONCE. -/
theorem test_frameSensorData :
    nextSat (exec (.frameSensorData
        { configmask := 0x001F, sysinfo := 0x03, gesture := 3, touch := 1, airwheel := 5,
          x := 0x8000, y := 0x8000, z := 0x8000 }) (holding ackFrame (running .dDecode 4)))
      (fun t => t.status == 0x0000040B && t.evq ==
        [.position 0x8000 0x8000 0x8000 5000 5000 5000, .gesture 3 .flickEW, .touch 0 .touch .south,
         .airwheel 5]) = true := by decide +kernel

/-- spec/95 D3. -/
theorem test_frameRequestMsg :
    nextSat (exec .frameRequestMsg (holding ackFrame (running .dDecode 3)))
      (fun t => t.status == 0x00000009 && t.evq == []) = true := by decide

/-- spec/95 D4. -/
theorem test_frameUnknown :
    nextSat (exec (.frameUnknown 0xA2) (holding ackFrame (running .dDecode 3)))
      (fun t => t.status == 0x00000009 && t.evq == []) = true := by decide

/-- spec/95 L1-11, step 1: the Device holds the 15 bytes. -/
theorem test_setRuntimeBlock :
    nextSat (exec (.setRuntimeBlock 0x5A 0x20 0x20)
      { State.reset with env := { Env.quiet with writeDraws := [.ok] } })
      (fun t => t.env.devBlock.map Vector.toList ==
        some [0, 0, 0xA2, 0x5A, 0, 0, 0, 0x20, 0, 0, 0, 0x20, 0, 0, 0] &&
        t.env.hostWrite == some .ok) = true := by decide

/-- R204: the Consumer takes the records with the next command already written, and leaves `evq`. -/
theorem test_consumer_before_dispatch :
    nextSat (step (withInputs [.consumer] { running .idle 1 with evq := [.airwheel 5] }))
      (fun t => t.env.consumerReads == [[.airwheel 5]] && t.evq == [.airwheel 5] && t.busy &&
        t.seq == .idle && t.env.inputs == []) = true := by decide

/-- R175, spec/95, 2.7: class id 8 under both values of `P_GESTURE_UNMAPPED`. -/
theorem test_gesture_unmapped :
    unmappedGesture .drop 8 = [] ∧ unmappedGesture .emitUnmapped 8 = [.gesture 8 .unmapped] ∧
    gestureTag 8 = none ∧ gestureTag 7 = some .circleCCW := by decide

/-- R173, C1: the end of the range, and a tie under both modes. -/
theorem test_normalize :
    normalizeAxis .halfEven 65532 = 9999 ∧ normalizeAxis .halfEven 65533 = 10000 ∧
    normalizeAxis .halfEven 0x8080 = 5020 ∧ normalizeAxis .halfEven 2048 = 312 ∧
    normalizeAxis .halfUp 2048 = 313 := by decide

/-- withFetchWord places a command, a frame and a block where the next step runs it. -/
theorem test_withFetchWord :
    nextSat (step (State.reset.withFetchWord 32 0x00000001)) (fun t => t.seq == .tReady) = true ∧
    nextSat (step (State.reset.withFetchWord 8 0x15)) (fun t => t.status == 0x00000007) = true ∧
    nextSat (step (State.reset.withFetchWord 4 3)) (fun t => t.status == 0x0000000A) = true := by
  decide

/-! ### The hypotheses of the statements are met

One theorem for each statement with hypotheses, named after it. A state that a run from reset reaches is
used where the statement asks for a good state. -/

/-- s with the given moves to come. -/
def moving (moves : List Input) (s : State) : State := withInputs moves s

/-- An idle block that has just been given command w, holding the frame of an earlier read. -/
def idleHolding (w : Word) : State :=
  { holding ackFrame (running .idle w) with status := 0x01000011 }

theorem good_running_idle : GoodState (running .idle 0x0002A202) :=
  ⟨by decide, by decide, by decide, by decide, by decide, by decide, by decide⟩

theorem good_idleHolding_try : GoodState (idleHolding 1) :=
  ⟨by decide, by decide, by decide, by decide, by decide, by decide, by decide⟩

theorem good_idleHolding_decode : GoodState (idleHolding 3) :=
  ⟨by decide, by decide, by decide, by decide, by decide, by decide, by decide⟩

theorem good_idle_decode : GoodState (running .idle 3) :=
  ⟨by decide, by decide, by decide, by decide, by decide, by decide, by decide⟩

theorem good_idleHolding_poll : GoodState (idleHolding 4) :=
  ⟨by decide, by decide, by decide, by decide, by decide, by decide, by decide⟩

theorem good_empty_decode : GoodState (running .dDecode 3) :=
  ⟨by decide, by decide, by decide, by decide, by decide, by decide, by decide⟩

theorem good_idle_illegal : GoodState (running .idle 5) :=
  ⟨by decide, by decide, by decide, by decide, by decide, by decide, by decide⟩

/-- The last attempt of a wait of budget 2, with the line driven. -/
def lastAttempt : State :=
  { running .tDrain 0x0002A202 with
    tsMode := .outLow, pExpected := 0xA2, pMax := 2, pTries := 2, status := 0x00020000 }

theorem good_lastAttempt : GoodState lastAttempt :=
  ⟨by decide, by decide, by decide, by decide, by decide, by decide, by decide⟩

theorem witness_BlockResetFromAnyState :
    (moving [.blockReset, .tick] lastAttempt).env.inputs = [.blockReset, .tick] ∧
    State.reset.seq = .idle ∧ State.reset.busy = false ∧ State.reset.env.inputs = [] :=
  ⟨rfl, rfl, rfl, rfl⟩

theorem witness_StepKeepsGoodState :
    GoodState lastAttempt ∧ ∃ t, step (drawing [] [.busError] lastAttempt) = .next t ∧
      GoodState (drawing [] [.busError] lastAttempt) ∧ t.seq = .tRelease :=
  ⟨good_lastAttempt, _, rfl, good_lastAttempt, rfl⟩

theorem witness_GoodStateAlwaysSteps : GoodState lastAttempt ∧ lastAttempt.seq ≠ .halted :=
  ⟨good_lastAttempt, by decide⟩

/-- Well-formed terms at the ends of their operand ranges. -/
theorem witness_DecodeAfterEncode :
    [Instr.tryReadFrame, .awaitStatus 0 0, .awaitStatus 255 255, .decode, .pollOnce,
      .illegalCommand 0, .illegalCommand 0xFFFFFFFF, .frameShort 0, .frameShort 3,
      .frameSystemStatus none, .frameSystemStatus (some 255), .frameFirmwareVersion [],
      .frameFirmwareVersion (List.replicate 20 0xFF),
      .frameSensorData ⟨0xFFFF, 0xFF, 0xFF, 0x7FFF, 0xFF, 0xFFFF, 0xFFFF, 0xFFFF⟩,
      .frameRequestMsg, .frameUnknown 0, .frameUnknown 255,
      .setRuntimeBlock 0xFF 0xFFFFFFFF 0xFFFFFFFF].all Instr.wellFormed = true := by decide

theorem witness_StepRunsTheCommand :
    ((running .idle 1).seq ≠ .halted ∧ (running .idle 1).busy = true ∧
      (running .idle 1).env.inputs = []) ∧
    (lastAttempt.seq ≠ .halted ∧ lastAttempt.seq ≠ .idle ∧
      (moving [.spb] lastAttempt).env.inputs = [.spb]) := by decide

theorem witness_StepRunsTheHeldFrame :
    (let s := holding ackFrame (running .dDecode 3)
     s.seq = .dDecode ∧ s.frameValid = true ∧ decodeCommand s.cmd = .decode ∧
       decodeFrame (s.frame.toList.take s.frameLen.val) = .ok (.frameSystemStatus (some 0xA2)) ∧
       s.env.inputs = [] ∧ (moving [.spb] s).env.inputs = [.spb]) ∧
    decodeCommand (running .dDecode 4).cmd = .pollOnce := by decide

/-- A block of step 1 of the configuration, arg_addr 0 (R77). -/
def stepOneBlock : Block := blockOfList [0, 0, 0xA2, 0, 0, 0, 0, 0x20, 0, 0, 0, 0x20, 0, 0, 0]

theorem witness_StepRunsTheBlockWrite :
    decodeBlock stepOneBlock.toList = .ok (.setRuntimeBlock 0 0x20 0x20) ∧
    (moving [.blockWrite stepOneBlock] State.reset).env.inputs = [.blockWrite stepOneBlock] ∧
    State.reset.busy = false ∧ (running .idle 1).busy = true ∧ (running .idle 1).seq ≠ .halted := by
  decide

theorem witness_CommanderWritesOnlyWhenIdle :
    (moving [.command 1] State.reset).env.inputs = [.command 1] ∧ State.reset.busy = false ∧
    State.reset.seq = .idle ∧ (running .dDecode 3).busy = true ∧
    (running .dDecode 3).seq ≠ .halted := by decide

theorem witness_OnlyTheCommanderWritesCmd :
    ∃ t, step (moving [.command 1] State.reset) = .next t ∧ t.cmd ≠ State.reset.cmd :=
  ⟨_, rfl, by decide⟩

theorem witness_OnlyTseqDrivesTheLine :
    (∃ t, step (running .tFreeze 1) = .next t ∧ t.tsMode ≠ (running .tFreeze 1).tsMode) ∧
    (∃ t, step { lastAttempt with seq := .tRelease, status := 0x00020030 } = .next t ∧
      t.tsMode ≠ lastAttempt.tsMode) :=
  ⟨⟨_, rfl, by decide⟩, ⟨_, rfl, by decide⟩⟩

theorem witness_OnlyTheDrainWritesTheFrame :
    ∃ t, step (drawing [] [.ok (windowOfList ackFrame)] lastAttempt) = .next t ∧
      t.frameLen ≠ lastAttempt.frameLen := ⟨_, rfl, by decide⟩

theorem witness_FrameValidWriters :
    (∃ t, step (drawing [] [.ok (windowOfList ackFrame)] lastAttempt) = .next t ∧
      t.frameValid ≠ lastAttempt.frameValid) ∧
    (∃ t, step (drawing [.high] [] (holding ackFrame (running .tReady 1))) = .next t ∧
      t.frameValid ≠ true) :=
  ⟨⟨_, rfl, by decide⟩, ⟨_, rfl, by decide⟩⟩

theorem witness_WaitRegistersWriters :
    (∃ t, step (running .pStart 0x0002A202) = .next t ∧ t.pMax ≠ 0) ∧
    (∃ t, step { running .pAttempt 0x0002A202 with pMax := 255, pTries := 254 } = .next t ∧
      t.pTries ≠ 254) :=
  ⟨⟨_, rfl, by decide⟩, ⟨_, rfl, by decide⟩⟩

theorem witness_EventsChangeOnlyAtDispatchAndDecode :
    (∃ t, step { running .idle 1 with evq := [.airwheel 1] } = .next t ∧ t.evq ≠ [.airwheel 1]) ∧
    (∃ t, step (holding (frameOf [(3, 0x83)]) (running .dDecode 3)) = .next t ∧ t.evq ≠ []) :=
  ⟨⟨_, rfl, by decide⟩, ⟨_, rfl, by decide⟩⟩

theorem witness_FaultsOnlyAtDispatchAndDecode :
    (GoodState (running .idle 5) ∧ (running .idle 5).seq ≠ .halted ∧
      ∃ t, step (running .idle 5) = .next t ∧ t.seq = .halted) ∧
    (GoodState (running .dDecode 3) ∧ (running .dDecode 3).seq ≠ .halted ∧
      ∃ t, step (running .dDecode 3) = .next t ∧ t.seq = .halted) :=
  ⟨⟨good_idle_illegal, by decide, _, rfl, rfl⟩, ⟨good_empty_decode, by decide, _, rfl, rfl⟩⟩

/-- The block after the fault of an illegal command. -/
def haltedState : State := { running .halted 5 with fault := 1, status := 0x8000000F }

theorem witness_HaltedUntilBlockReset :
    haltedState.seq = .halted ∧ haltedState.busy = true ∧ haltedState.env.inputs = [] ∧
    (moving [.spb] haltedState).env.inputs = [.spb] ∧
    (∃ t, step (moving [.tick] haltedState) = .next t ∧
      ∀ rest, (moving [.tick] haltedState).env.inputs ≠ .blockReset :: rest) :=
  ⟨rfl, rfl, rfl, rfl, _, rfl, fun rest h => by cases h⟩

theorem witness_FaultBitsAreSticky :
    ∃ t, step (moving [.tick] haltedState) = .next t ∧
      (∀ rest, (moving [.tick] haltedState).env.inputs ≠ .blockReset :: rest) ∧
      haltedState.fault.getLsbD 0 = true := ⟨_, rfl, (fun rest h => by cases h), rfl⟩

theorem witness_DispatchStartsTheCommand :
    (running .idle 1).seq = .idle ∧ (running .idle 1).busy = true := by decide

theorem witness_ReadyStep :
    (running .tReady 1).seq = .tReady ∧ (running .tReady 1).tsMode = .inPu ∧
    (sampleLine (drawing [.high] [] (running .tReady 1))).1 = .high ∧
    (sampleLine (drawing [.low] [] (running .tReady 1))).1 = .low ∧
    [Instr.tryReadFrame, .awaitStatus 0 255, .pollOnce].all usesTransport = true := by decide

theorem witness_FreezeStep :
    (running .tFreeze 1).seq = .tFreeze ∧
    [Instr.tryReadFrame, .awaitStatus 0 255, .pollOnce].all usesTransport = true := by decide

theorem witness_DrainStep :
    lastAttempt.seq = .tDrain ∧
    [Instr.tryReadFrame, .awaitStatus 0 255, .pollOnce].all usesTransport = true ∧
    (memRead (drawing [] [.ok (windowOfList ackFrame)] lastAttempt)).1 =
      .ok (windowOfList ackFrame) ∧
    (memRead (drawing [] [.busError] lastAttempt)).1 = .busError := by decide

theorem witness_ReleaseStep :
    (running .tRelease 1).seq = .tRelease ∧ statusXfer 0x00000010 = .frame ∧
    statusXfer 0x00000020 = .noFrame ∧ statusXfer 0x00000030 = .busError ∧
    statusXfer 0x00000000 ≠ .frame := by decide

/-- The three cases of a read, before it: line high, line low and a frame, line low and a BusError. -/
theorem witness_TryReadFrameRuns :
    GoodState (idleHolding 1) ∧ (idleHolding 1).seq = .idle ∧ (idleHolding 1).busy = true ∧
    (idleHolding 1).cmd = 0x00000001 ∧ (idleHolding 1).env.inputs = [] ∧
    (drawing [.high] [] (idleHolding 1)).env.lineDraws = [.high] ∧
    GoodState (drawing [.low] [.ok (windowOfList fullFrame)] (idleHolding 1)) ∧
    GoodState (drawing [.low] [.busError] (idleHolding 1)) :=
  ⟨good_idleHolding_try, rfl, rfl, rfl, rfl, rfl, good_idleHolding_try, good_idleHolding_try⟩

theorem witness_StartStep :
    (running .pStart 0x0000A202).seq = .pStart ∧ (0 : Byte) = 0 ∧ (1 : Byte) ≠ 0 ∧
    (255 : Byte) ≠ 0 := by decide

theorem witness_AttemptStep :
    (let s := { running .pAttempt 0x0001A202 with pMax := 1 }
     s.seq = .pAttempt ∧ s.pTries < s.pMax) ∧
    (let s := { running .pAttempt 0x00FFA202 with pMax := 255, pTries := 254 }
     s.seq = .pAttempt ∧ s.pTries < s.pMax) := by decide

/-- The four clauses: a BusError, a match, the budget spent, attempts left. -/
theorem witness_MatchStep :
    (let s := { running .pMatch 0x0001A202 with pMax := 1, pTries := 1, status := 0x00010030 }
     s.seq = .pMatch ∧ statusXfer s.status = .busError) ∧
    (let s := { holding ackFrame (running .pMatch 0x0001A202) with
                pExpected := 0xA2, pMax := 1, pTries := 1, status := 0x01010010 }
     statusXfer s.status = .frame ∧ s.frame[3] = 0x15#8 ∧ 5 ≤ s.frameLen.val ∧
       s.frame[4] = s.pExpected) ∧
    (let s := { running .pMatch 0x0001A202 with pMax := 1, pTries := 1, status := 0x00010020 }
     statusXfer s.status ≠ .busError ∧ statusXfer s.status ≠ .frame ∧ s.pTries = s.pMax) ∧
    (let s := { holding ackFrame (running .pMatch 0x000210A2) with
                pExpected := 0x10, pMax := 2, pTries := 1, status := 0x01010010 }
     statusXfer s.status ≠ .busError ∧ s.frame[4] ≠ s.pExpected ∧ s.pTries ≠ s.pMax) := by decide

theorem witness_IntervalStep :
    (running .pInterval 0x0002A202).seq = .pInterval ∧
    (moving [.tick] (running .pInterval 0x0002A202)).env.inputs = [.tick] ∧
    decodeCommand (running .pInterval 0x0002A202).cmd = .awaitStatus 0xA2 2 ∧
    (∀ r, (running .pInterval 0x0002A202).env.inputs ≠ .tick :: r) ∧
    (running .tReady 1).seq ≠ .pInterval :=
  ⟨rfl, rfl, by decide, (fun r h => by cases h), by decide⟩

theorem witness_ZeroBudgetTimesOut :
    (GoodState (idleHolding 0x0000A202) ∧ (idleHolding 0x0000A202).seq = .idle ∧
      (idleHolding 0x0000A202).busy = true) ∧
    decodeCommand (idleHolding 0x0000A202).cmd = .awaitStatus 0xA2 0 ∧
    (idleHolding 0x0000A202).env.inputs = [] :=
  ⟨⟨⟨by decide, by decide, by decide, by decide, by decide, by decide, by decide⟩, rfl, rfl⟩,
    by decide, rfl⟩

/-- A wait of budget 2 for 0xA2, about to be dispatched, whose attempts go as given. -/
def waiting (as : List Attempt) : State :=
  drawing (as.map Attempt.level) (as.flatMap Attempt.reads)
    (moving (.spb :: .spb :: waitInputs as) (running .idle 0x0002A202))

/-- A frame that acknowledges another command id. -/
def otherAck : Window := windowOfList (frameOf [(3, 0x15), (4, 0x10)])

theorem good_waiting (as : List Attempt) : GoodState (waiting as) := good_running_idle

theorem waiting_inputs (as : List Attempt) :
    (waiting as).env.inputs = .spb :: .spb :: (waitInputs as ++ []) := by
  rw [List.append_nil]; rfl

theorem waiting_answers (as : List Attempt) : waitAnswers as [] [] (waiting as) :=
  ⟨(List.append_nil _).symm, (List.append_nil _).symm⟩

theorem witness_WaitTimesOutAfterExactlyItsBudget :
    let as := [Attempt.high, .frame otherAck]
    GoodState (waiting as) ∧ (waiting as).seq = .idle ∧ (waiting as).busy = true ∧
    decodeCommand (waiting as).cmd = .awaitStatus 0xA2 2 ∧ as.length = (2 : Byte).toNat ∧
    (∀ a ∈ as, a.goesOn 0xA2 = true) ∧
    (waiting as).env.inputs = .spb :: .spb :: (waitInputs as ++ []) ∧
    waitAnswers as [] [] (waiting as) :=
  ⟨good_waiting _, rfl, rfl, by decide, rfl, by decide, waiting_inputs _, waiting_answers _⟩

theorem witness_WaitAcknowledgesAtFirstMatch :
    let as := [Attempt.frame otherAck]
    let b := windowOfList ackFrame
    GoodState (waiting (as ++ [Attempt.frame b])) ∧ (waiting (as ++ [Attempt.frame b])).seq = .idle ∧
    (waiting (as ++ [Attempt.frame b])).busy = true ∧
    decodeCommand (waiting (as ++ [Attempt.frame b])).cmd = .awaitStatus 0xA2 2 ∧
    as.length + 1 ≤ (2 : Byte).toNat ∧ (∀ a ∈ as, a.goesOn 0xA2 = true) ∧
    (Attempt.frame b).acknowledges 0xA2 = true ∧
    (waiting (as ++ [Attempt.frame b])).env.inputs =
      .spb :: .spb :: (waitInputs (as ++ [Attempt.frame b]) ++ []) ∧
    waitAnswers (as ++ [Attempt.frame b]) [] [] (waiting (as ++ [Attempt.frame b])) :=
  ⟨good_waiting _, rfl, rfl, by decide, by decide, by decide, by decide, waiting_inputs _, waiting_answers _⟩

theorem witness_WaitEndsAtBusError :
    let as := [Attempt.high]
    GoodState (waiting (as ++ [Attempt.busError])) ∧ (waiting (as ++ [Attempt.busError])).seq = .idle ∧
    (waiting (as ++ [Attempt.busError])).busy = true ∧
    decodeCommand (waiting (as ++ [Attempt.busError])).cmd = .awaitStatus 0xA2 2 ∧
    as.length + 1 ≤ (2 : Byte).toNat ∧ (∀ a ∈ as, a.goesOn 0xA2 = true) ∧
    (waiting (as ++ [Attempt.busError])).env.inputs =
      .spb :: .spb :: (waitInputs (as ++ [Attempt.busError]) ++ []) ∧
    waitAnswers (as ++ [Attempt.busError]) [] [] (waiting (as ++ [Attempt.busError])) :=
  ⟨good_waiting _, rfl, rfl, by decide, by decide, by decide, waiting_inputs _, waiting_answers _⟩

/-- The three clauses; the second holds of no reachable state (R144), so its frame is cut to 25 bytes by
hand. -/
theorem witness_DecodeStep :
    ((running .dDecode 3).seq = .dDecode ∧ (running .dDecode 3).frameValid = false) ∧
    (let s := { holding (frameOf [(3, 0x91)]) (running .dDecode 3) with frameLen := 25 }
     s.seq = .dDecode ∧ s.frameValid = true ∧
       dec machineParams (s.frame.toList.take s.frameLen.val) = .shortSensor) ∧
    (let s := holding ackFrame (running .dDecode 4)
     s.seq = .dDecode ∧ s.frameValid = true ∧
       dec machineParams (s.frame.toList.take s.frameLen.val) = .decoded .decStatus []) :=
  ⟨⟨rfl, rfl⟩, ⟨rfl, rfl, rfl⟩, ⟨rfl, rfl, rfl⟩⟩

theorem witness_FrameRowsComplete :
    (holding ackFrame (running .dDecode 3)).seq = .dDecode ∧
    (holding ackFrame (running .dDecode 3)).frameValid = true ∧
    decodeCommand (running .dDecode 3).cmd = .decode ∧
    decodeCommand (running .dDecode 4).cmd = .pollOnce := by decide

/-- Each clause at the ends of its length range: 0 and 3; 4 and 25; 26; 4. -/
theorem witness_DecByLengthAndIdentifier :
    ((zeros 0).length < 4 ∧ (zeros 3).length < 4) ∧
    (([0, 0, 0, 0x91] : List Byte)[3] = 0x91#8 ∧
      (((frameOf [(3, 0x91)]).take 25)[3]? = some 0x91#8 ∧
        ((frameOf [(3, 0x91)]).take 25).length < 26)) ∧
    (((frameOf [(3, 0x91)]).take 26)[3]? = some 0x91#8 ∧
      26 ≤ ((frameOf [(3, 0x91)]).take 26).length) ∧
    ([0, 0, 0, 0x15] : List Byte)[3] = 0x15#8 ∧ ([0, 0, 0, 0x83] : List Byte)[3] = 0x83#8 ∧
    (([0, 0, 0, 0x06] : List Byte)[3] ≠ 0x91#8 ∧ ([0, 0, 0, 0x06] : List Byte)[3] ≠ 0x15#8 ∧
      ([0, 0, 0, 0x06] : List Byte)[3] ≠ 0x83#8) := by decide

theorem witness_DecodeRuns :
    (GoodState (running .idle 3) ∧ (running .idle 3).seq = .idle ∧ (running .idle 3).busy = true ∧
      (running .idle 3).cmd = 0x00000003 ∧ (running .idle 3).env.inputs = [] ∧
      (running .idle 3).frameValid = false) ∧
    (GoodState (idleHolding 3) ∧ (idleHolding 3).seq = .idle ∧ (idleHolding 3).busy = true ∧
      (idleHolding 3).cmd = 0x00000003 ∧ (idleHolding 3).env.inputs = [] ∧
      (idleHolding 3).frameValid = true) :=
  ⟨⟨good_idle_decode, rfl, rfl, rfl, rfl, rfl⟩, ⟨good_idleHolding_decode, rfl, rfl, rfl, rfl, rfl⟩⟩

theorem witness_PollOnceRuns :
    GoodState (idleHolding 4) ∧ (idleHolding 4).seq = .idle ∧ (idleHolding 4).busy = true ∧
    (idleHolding 4).cmd = 0x00000004 ∧ (idleHolding 4).env.inputs = [] ∧
    GoodState (drawing [.high] [] (idleHolding 4)) ∧
    GoodState (drawing [.low] [.busError] (idleHolding 4)) ∧
    GoodState (drawing [.low] [.ok (windowOfList fullFrame)] (idleHolding 4)) :=
  ⟨good_idleHolding_poll, rfl, rfl, rfl, rfl, good_idleHolding_poll, good_idleHolding_poll,
    good_idleHolding_poll⟩

/-- Two frames that differ in every ignored bit. -/
theorem witness_DecIgnoresUnnamedBits :
    let a := windowOfList (frameOf [(3, 0x91), (4, 0x1E), (7, 0x03)])
    let b := windowOfList (frameOf [(0, 0xFF), (1, 0xFF), (2, 0xFF), (3, 0x91), (4, 0xFF), (5, 0xFF),
      (6, 0xFF), (7, 0xFF), (8, 0xFF), (9, 0xFF), (11, 0xFF), (12, 0xFF), (13, 0xFF), (15, 0x80),
      (16, 0xFF), (17, 0xFF), (19, 0xFF), (26, 0xFF), (31, 0xFF)])
    a[3] = 0x91#8 ∧ b[3] = 0x91#8 ∧ (∀ j, 1 ≤ j → j ≤ 4 → a[4].getLsbD j = b[4].getLsbD j) ∧
    (∀ j, j ≤ 1 → a[7].getLsbD j = b[7].getLsbD j) ∧ a[10] = b[10] ∧ a[14] = b[14] ∧
    (∀ j, j ≤ 6 → a[15].getLsbD j = b[15].getLsbD j) ∧ a[18] = b[18] ∧ a[20] = b[20] ∧
    a[21] = b[21] ∧ a[22] = b[22] ∧ a[23] = b[23] ∧ a[24] = b[24] ∧ a[25] = b[25] := by
  refine ⟨by decide, by decide, ?_, ?_, by decide, by decide, ?_, by decide, by decide, by decide,
    by decide, by decide, by decide, by decide⟩
  · intro j h1 h2
    have : j = 1 ∨ j = 2 ∨ j = 3 ∨ j = 4 := by omega
    rcases this with rfl | rfl | rfl | rfl <;> decide
  · intro j h1
    have : j = 0 ∨ j = 1 := by omega
    rcases this with rfl | rfl <;> decide
  · intro j h1
    have : j = 0 ∨ j = 1 ∨ j = 2 ∨ j = 3 ∨ j = 4 ∨ j = 5 ∨ j = 6 := by omega
    rcases this with rfl | rfl | rfl | rfl | rfl | rfl | rfl <;> decide

/-- No tie at v = 32896 (spec/95 L1-10), with N = 5020; a tie at v = 2048 (625 * 2048 = 312.5 * 4096). -/
theorem witness_NormalizeRoundsToNearest :
    ((32896#16).toNat * 625 % 4096 ≠ 2048 ∧
      2 * ((32896#16).toNat * 625) < 4096 * (2 * 5020 + 1) ∧
      4096 * (2 * 5020) < 2 * ((32896#16).toNat * 625) + 4096) ∧
    (2048#16).toNat * 625 % 4096 = 2048 := by decide

/-- The two sides of the split in the scaling back: v = 32896 and v = 65533; and two ordered values. -/
theorem witness_NormalizeProperties :
    scaleBack .halfEven (normalizeAxis .halfEven 32896) ≤ 65535 ∧
    normalizeAxis .halfEven 65533 = 10000 ∧ (0#16).toNat ≤ (65535#16).toNat := by decide

theorem witness_FirmwareStripsTrailingBytes :
    ([] : List Byte).length ≤ 20 ∧ (List.replicate 20 (0x20 : Byte)).length ≤ 20 ∧
    ([0x31, 0x20, 0x0D, 0x0A, 0x00] : List Byte).length ≤ 20 := by decide

theorem witness_BlockWriteCompletesOrFails :
    (writeAnswer { State.reset with env := { Env.quiet with writeDraws := [.ok] } }).1 = .ok ∧
    (writeAnswer { State.reset with env := { Env.quiet with writeDraws := [.busError] } }).1 =
      .busError := by decide

theorem witness_AssemblerDefaultAndRange :
    parseNumber ['2', '5', '5'] = some 255 ∧ 255 < 256 ∧
    parseNumber ['0', 'x', '1', '0', '0'] = some 256 ∧ 256 ≤ 256 ∧
    parseNumber ['0'] = some 0 ∧ 0 < 256 := by decide

/-- A DECODE at its D_DECODE; and the other clauses: no frame, an idle block, a halted one. -/
theorem witness_PortsAfterDecode :
    (let s := holding ackFrame (running .dDecode 3)
     s.seq = .dDecode ∧ s.frameValid = true ∧ s.busy = true ∧ s.evq = [] ∧
      decodeCommand s.cmd = .decode ∧
      dec machineParams (s.frame.toList.take s.frameLen.val) = .decoded .decStatus []) ∧
    State.reset.frameValid = false ∧ State.reset.seq = .idle ∧ haltedState.seq = .halted :=
  ⟨⟨rfl, rfl, rfl, rfl, by decide, rfl⟩, rfl, rfl, rfl⟩

/-- A read in IDLE with the next command already in CMD, one in HALTED, one while a command runs. -/
theorem witness_ConsumerTakesTheRecords :
    ((moving [.consumer] (running .idle 1)).env.inputs = [.consumer] ∧
      (running .idle 1).seq = .idle) ∧
    ((moving [.consumer] haltedState).env.inputs = [.consumer] ∧ haltedState.seq = .halted) ∧
    ((moving [.consumer] lastAttempt).env.inputs = [.consumer] ∧ lastAttempt.seq ≠ .idle ∧
      lastAttempt.seq ≠ .halted) := by decide

/-- The block holds a record while CMD is written, while an illegal word faults, and at a dispatch; and a
good state without a read. -/
theorem witness_RecordsStayReadableUntilDispatch :
    (let s := moving [.command 1] { State.reset with evq := [.airwheel 5] }
     s.seq = .idle ∧ (∃ t, step s = .next t) ∧ ∀ rest, s.env.inputs ≠ .blockReset :: rest) ∧
    (let s := { running .idle 5 with evq := [.airwheel 5] }
     s.seq = .idle ∧ (∃ t, step s = .next t) ∧ ∀ rest, s.env.inputs ≠ .blockReset :: rest) ∧
    (let s := { running .idle 1 with evq := [.airwheel 5] }
     s.seq = .idle ∧ (∃ t, step s = .next t) ∧ ∀ rest, s.env.inputs ≠ .blockReset :: rest) ∧
    (GoodState lastAttempt ∧ consumerEvents lastAttempt = none) :=
  ⟨⟨rfl, ⟨_, rfl⟩, (fun rest h => by cases h)⟩, ⟨rfl, ⟨_, rfl⟩, (fun rest h => by cases h)⟩,
    ⟨rfl, ⟨_, rfl⟩, (fun rest h => by cases h)⟩, good_lastAttempt, rfl⟩

theorem witness_OtherBlockWrites :
    (moving [.blockWrite (blockOfList (zeros 15))] State.reset).env.inputs =
      [.blockWrite (blockOfList (zeros 15))] ∧
    decodeBlock (blockOfList (zeros 15)).toList = .error .blockCommandId ∧
    State.reset.busy = false ∧
    (writeAnswer { State.reset with env := { Env.quiet with writeDraws := [.ok] } }).1 = .ok ∧
    (writeAnswer { State.reset with env := { Env.quiet with writeDraws := [.busError] } }).1 =
      .busError ∧ (running .idle 1).busy = true ∧ (running .idle 1).seq ≠ .halted := by decide

end Sys2Proof.Tests
end

/-! Whose turn it is (R5, log entry 2): what one step is for the moves that give the block its turn and
for the Consumer's move, and the two statements about them. -/

namespace Sys2Proof.Machine

/-! ### The block's turn and the moves -/

/-- R8, R12, R82: the block's turn is the running command's step, except in HALTED and while IDLE
waits for a command. -/
theorem spbTurn_eq_exec {s : State} (hhalt : s.seq ≠ .halted) (hbusy : s.seq = .idle → s.busy = true) :
    spbTurn s = exec (decodeCommand s.cmd) s := by
  unfold spbTurn
  split
  case h_1 hq => exact absurd hq hhalt
  case h_2 hq => rw [if_pos (hbusy hq)]
  case h_3 => rfl

theorem step_of_no_inputs {s : State} (h : s.env.inputs = []) : step s = spbTurn s := by
  simp only [step, advance, h]

theorem step_of_spb {s : State} {rest : List Input} (h : s.env.inputs = .spb :: rest) :
    step s = spbTurn (withInputs rest s) := by
  simp only [step, advance, h]

theorem step_of_consumer {s : State} {rest : List Input} (h : s.env.inputs = .consumer :: rest) :
    step s = if consumerReady s then .next (takeEvents (withInputs rest s)) else spbTurn s := by
  simp only [step, advance, h]

/-! ### The statements -/

/-- Settles O10: an empty list and a listed turn both come to `spbTurn`, which under the premises is
`exec`; taking the turn off the list changes neither `seq`, `busy` nor CMD. -/
theorem stepRunsTheCommand : Obligations.StepRunsTheCommand := by
  unfold Obligations.StepRunsTheCommand
  intro s hhalt hbusy
  constructor
  · intro hnil
    rw [step_of_no_inputs hnil, spbTurn_eq_exec hhalt hbusy]
  · intro rest hspb
    have hturn : spbTurn (withInputs rest s) = exec (decodeCommand s.cmd) (withInputs rest s) :=
      spbTurn_eq_exec (s := withInputs rest s) hhalt hbusy
    rw [step_of_spb hspb, hturn, withInputs]

/-- Settles O57: by `consumerReady_iff` the read is allowed in IDLE and HALTED and nowhere else; where it
is not, neither exception to the block's turn applies. -/
theorem consumerTakesTheRecords : Obligations.ConsumerTakesTheRecords := by
  unfold Obligations.ConsumerTakesTheRecords
  intro s rest hcons
  constructor
  · intro hready
    rw [step_of_consumer hcons, if_pos ((consumerReady_iff s).mpr hready)]
    rfl
  · intro hidle hhalt
    have hnot : ¬ consumerReady s = true := fun hready =>
      ((consumerReady_iff s).mp hready).elim hidle hhalt
    rw [step_of_consumer hcons, if_neg hnot]
    exact spbTurn_eq_exec hhalt fun hq => absurd hq hidle

end Sys2Proof.Machine

/-! What one step does, register by register (R5, R18 to R22): the four kinds of move, and who writes
which register. -/

namespace Sys2Proof.Machine

/-! ### What SAP and the drain leave unchanged -/

@[simp] theorem memRead_withInputs_answer (moves : List Input) (s : State) :
    (memRead (withInputs moves s)).1 = (memRead s).1 := by
  unfold memRead withInputs; dsimp only; split <;> rfl

@[simp] theorem tDrain_keeps (s : State) :
    (tDrain s).tsMode = s.tsMode ∧ (tDrain s).seq = .tRelease ∧ (tDrain s).pExpected = s.pExpected ∧
    (tDrain s).pMax = s.pMax ∧ (tDrain s).pTries = s.pTries ∧ (tDrain s).cmd = s.cmd ∧
    (tDrain s).fault = s.fault ∧ (tDrain s).evq = s.evq := by
  rcases tDrain_cases s with ⟨b, -, h⟩ | ⟨-, h⟩ <;> simp [h]

@[simp] theorem pStart_keeps (exp maxt : Byte) (s : State) :
    (pStart exp maxt s).tsMode = s.tsMode ∧ (pStart exp maxt s).frame = s.frame ∧
    (pStart exp maxt s).frameLen = s.frameLen ∧ (pStart exp maxt s).frameValid = s.frameValid ∧
    (pStart exp maxt s).cmd = s.cmd ∧ (pStart exp maxt s).fault = s.fault ∧
    (pStart exp maxt s).evq = s.evq ∧ (pStart exp maxt s).seq ≠ .halted := by
  unfold pStart; dsimp only; split <;> simp

/-- What P_START loads (R121). -/
theorem pStart_loads (exp maxt : Byte) (s : State) :
    (pStart exp maxt s).pExpected = exp ∧ (pStart exp maxt s).pMax = maxt ∧
    (pStart exp maxt s).pTries = 0 := by
  unfold pStart; dsimp only; split <;> simp

@[simp] theorem pMatch_keeps (s : State) :
    (pMatch s).tsMode = s.tsMode ∧ (pMatch s).frame = s.frame ∧ (pMatch s).frameLen = s.frameLen ∧
    (pMatch s).pExpected = s.pExpected ∧ (pMatch s).pMax = s.pMax ∧ (pMatch s).pTries = s.pTries ∧
    (pMatch s).cmd = s.cmd ∧ (pMatch s).fault = s.fault ∧ (pMatch s).evq = s.evq ∧
    (pMatch s).seq ≠ .halted := by
  rcases pMatch_cases s with ⟨-, h⟩ | ⟨-, -, h⟩ | ⟨-, -, ⟨-, h⟩ | ⟨-, h⟩⟩ <;> simp [h]

/-- P_MATCH keeps `frame_valid` or clears it (R15, R123). -/
theorem pMatch_frameValid (s : State) :
    (pMatch s).frameValid = s.frameValid ∨ (pMatch s).frameValid = false := by
  rcases pMatch_cases s with ⟨-, h⟩ | ⟨-, -, h⟩ | ⟨-, -, ⟨-, h⟩ | ⟨-, h⟩⟩ <;> simp [h]

@[simp] theorem pInterval_keeps (s : State) :
    (pInterval s).tsMode = s.tsMode ∧ (pInterval s).frame = s.frame ∧
    (pInterval s).frameLen = s.frameLen ∧ (pInterval s).frameValid = s.frameValid ∧
    (pInterval s).pExpected = s.pExpected ∧ (pInterval s).pMax = s.pMax ∧
    (pInterval s).pTries = s.pTries ∧ (pInterval s).cmd = s.cmd ∧
    (pInterval s).fault = s.fault ∧ (pInterval s).evq = s.evq := by
  rcases pInterval_cases s with ⟨rest, -, h⟩ | ⟨-, h⟩ <;> simp [h]

/-- P_INTERVAL holds or goes on to P_ATTEMPT (R125). -/
theorem pInterval_seq (s : State) :
    (pInterval s).seq = s.seq ∨ (pInterval s).seq = .pAttempt := by
  rcases pInterval_cases s with ⟨rest, -, h⟩ | ⟨-, h⟩ <;> simp [h]

/-! ### The four kinds of move -/

/-- A block write changes the environment only, whatever its bytes are (R45). -/
theorem blockWriteTurn_registers (b : Block) (s : State) :
    ∃ e, blockWriteTurn b s = .next { s with env := e } := by
  unfold blockWriteTurn
  cases hd : decodeBlock b.toList with
  | error x => exact ⟨_, congrArg _ (memWrite_registers b s)⟩
  | ok i =>
    obtain ⟨a, p, q, rfl⟩ := decodeBlock_ok hd
    exact ⟨_, congrArg _ (memWrite_registers _ s)⟩

/-- Everything one step can do to the registers. -/
inductive Move (s t : State) : Prop where
  /-- A block reset (R240). -/
  | blockReset (rest : List Input) (hi : s.env.inputs = .blockReset :: rest)
      (ht : t = blockReset (withInputs rest s))
  /-- The Commander's write of CMD (R18). -/
  | command (w : Word) (rest : List Input) (hi : s.env.inputs = .command w :: rest)
      (hb : s.busy = false) (hq : s.seq = .idle) (ht : t = acceptCommand w (withInputs rest s))
  /-- A move of another agent, or the block's wait in IDLE: no register changes. -/
  | environment (e : Env) (ht : t = { s with env := e })
  /-- The running command's step. -/
  | turn (moves : List Input) (hq : s.seq ≠ .halted) (hb : s.seq = .idle → s.busy = true)
      (hx : exec (decodeCommand (withInputs moves s).cmd) (withInputs moves s) = .next t)

theorem commanderReady_iff (s : State) :
    commanderReady s = true ↔ s.busy = false ∧ s.seq = .idle := by
  simp [commanderReady]

/-- The block's turn, with the moves that are left. -/
theorem move_of_spbTurn {s t : State} (moves : List Input)
    (h : spbTurn (withInputs moves s) = .next t) : Move s t := by
  obtain ⟨hq, ⟨-, -, ht⟩ | ⟨hb, hx⟩⟩ := spbTurn_next h
  · exact .environment _ ht
  · exact .turn moves hq (fun hi => by simpa [hi] using hb) hx

/-- Every step is one of the four moves; where an agent holds, it is the block's turn (log entry 2). -/
theorem step_move {s t : State} (h : step s = .next t) : Move s t := by
  have own_turn : step s = spbTurn s → Move s t := fun hs =>
    move_of_spbTurn s.env.inputs (hs ▸ h)
  rcases step_cases s with ⟨-, hs⟩ | ⟨rest, -, hs⟩ | ⟨rest, hi, hs⟩ | ⟨rest, -, ⟨-, hs⟩ | ⟨-, hs⟩⟩ |
    ⟨w, rest, hi, ⟨hc, hs⟩ | ⟨-, hs⟩⟩ | ⟨b, rest, -, ⟨-, hs⟩ | ⟨-, hs⟩⟩ |
    ⟨rest, -, ⟨-, hs⟩ | ⟨-, hs⟩⟩
  · exact own_turn hs
  · exact move_of_spbTurn rest (hs ▸ h)
  · exact .blockReset rest hi (Host.Outcome.next.inj (h.symm.trans hs))
  · exact own_turn hs
  · exact .environment _ (Host.Outcome.next.inj (h.symm.trans hs))
  · obtain ⟨hb, hq⟩ := (commanderReady_iff s).mp hc
    exact .command w rest hi hb hq (Host.Outcome.next.inj (h.symm.trans hs))
  · exact own_turn hs
  · exact own_turn hs
  · obtain ⟨e, he⟩ := blockWriteTurn_registers b (withInputs rest s)
    exact .environment e (Host.Outcome.next.inj (h.symm.trans (hs.trans he)))
  · exact .environment _ (Host.Outcome.next.inj (h.symm.trans hs))
  · exact own_turn hs

/-! ### What a command's step writes -/

section
variable {s t : State}

/-- The block only reads CMD (R18). -/
theorem Turn.cmd_eq (h : Turn s t) : t.cmd = s.cmd := by
  cases h <;> simp [*]

/-- R11: T_FREEZE drives the line, T_RELEASE releases it. -/
theorem Turn.tsMode_cases (h : Turn s t) :
    t.tsMode = s.tsMode ∨ (s.seq = .tFreeze ∧ t.tsMode = .outLow ∧ t.seq = .tDrain) ∨
    (s.seq = .tRelease ∧ t.tsMode = .inPu) := by
  cases h with
  | freeze hs ht => subst ht; exact .inr (.inl ⟨hs, rfl, rfl⟩)
  | releaseDone r hs ht => subst ht; exact .inr (.inr ⟨hs, rfl⟩)
  | releaseOn q hs hq ht => subst ht; exact .inr (.inr ⟨hs, rfl⟩)
  | _ => left; simp [*]

/-- R14, R16: the frame register is written whole by a successful T_DRAIN. -/
theorem Turn.frame_cases (h : Turn s t) :
    (t.frame = s.frame ∧ t.frameLen = s.frameLen) ∨
    (s.seq = .tDrain ∧ ∃ b, (memRead s).1 = .ok b ∧ t.frame = b ∧ t.frameLen = 32 ∧
      t.frameValid = true) := by
  cases h with
  | drain hs ht =>
    subst ht
    rcases tDrain_cases s with ⟨b, hb, h⟩ | ⟨-, h⟩
    · exact .inr ⟨hs, b, hb, by simp [h]⟩
    · left; simp [h]
  | _ => left; simp [*]

/-- R15: who sets and who clears `frame_valid`. -/
theorem Turn.frameValid_cases (h : Turn s t) :
    t.frameValid = s.frameValid ∨
    (t.frameValid = true ∧ s.seq = .tDrain ∧ ∃ b, (memRead s).1 = .ok b) ∨
    (t.frameValid = false ∧ (s.seq = .tReady ∨ s.seq = .pMatch ∨ s.seq = .dDecode)) := by
  cases h with
  | drain hs ht =>
    subst ht
    rcases tDrain_cases s with ⟨b, hb, h⟩ | ⟨-, h⟩
    · exact .inr (.inl ⟨by simp [h], hs, b, hb⟩)
    · left; simp [h]
  | readyDone r hs hr hl ht => subst ht; exact .inr (.inr ⟨by simp, .inl hs⟩)
  | readyMatch hs hl ht => subst ht; exact .inr (.inr ⟨by simp, .inl hs⟩)
  | readyFreeze hs hl ht => subst ht; exact .inr (.inr ⟨by simp, .inl hs⟩)
  | poll hs ht =>
    subst ht
    exact (pMatch_frameValid s).imp_right fun hv => .inr ⟨hv, .inr (.inl hs)⟩
  | deliver r cls recs hs hv hr hc hd ht => subst ht; exact .inr (.inr ⟨rfl, .inr (.inr hs)⟩)
  | _ => left; simp [*]

/-- R17: P_START loads the wait's registers, P_ATTEMPT counts one attempt. -/
theorem Turn.waitRegisters_cases (h : Turn s t) :
    (t.pExpected = s.pExpected ∧ t.pMax = s.pMax ∧ t.pTries = s.pTries) ∨
    (s.seq = .pStart ∧ decodeCommand s.cmd = .awaitStatus t.pExpected t.pMax ∧ t.pTries = 0) ∨
    (s.seq = .pAttempt ∧ t.pExpected = s.pExpected ∧ t.pMax = s.pMax ∧ s.pTries < s.pMax ∧
      t.pTries = s.pTries + 1) := by
  cases h with
  | start e m hs hc ht =>
    obtain ⟨he, hm, hn⟩ := pStart_loads e m s
    subst ht
    exact .inr (.inl ⟨hs, by rw [he, hm, hc], hn⟩)
  | attempt hs hp ht => subst ht; exact .inr (.inr ⟨hs, rfl, rfl, hp, rfl⟩)
  | _ => left; simp [*]

/-- R22: a legal dispatch empties `evq`, D_DECODE appends to it. -/
theorem Turn.evq_cases (h : Turn s t) :
    t.evq = s.evq ∨ (s.seq = .idle ∧ t.evq = []) ∨
    (s.seq = .dDecode ∧ (decodeCommand s.cmd = .decode ∨ decodeCommand s.cmd = .pollOnce) ∧
      ∃ recs, t.evq = s.evq ++ recs) := by
  cases h with
  | dispatch q hs hq hc ht => subst ht; exact .inr (.inl ⟨hs, rfl⟩)
  | deliver r cls recs hs hv hr hc hd ht => subst ht; exact .inr (.inr ⟨hs, hc, recs, rfl⟩)
  | _ => left; simp [*]

/-- R214: a step leaves FAULT as it is or sets one bit of it. -/
theorem Turn.fault_cases (h : Turn s t) : t.fault = s.fault ∨ ∃ f, t.fault = setFaultBit f s.fault := by
  cases h with
  | illegal hs hc ht => subst ht; exact .inr ⟨_, rfl⟩
  | decodeEmpty hs hv ht => subst ht; exact .inr ⟨_, rfl⟩
  | shortSensor hs hv hd ht => subst ht; exact .inr ⟨_, rfl⟩
  | _ => left; simp [*]

/-- In IDLE a command's step is its dispatch (R82). -/
theorem Turn.of_idle (h : Turn s t) (hq : s.seq = .idle) :
    (decodeCommand s.cmd ≠ .illegalCommand s.cmd ∧ ∃ q, t = dispatchTo q s) ∨
    (decodeCommand s.cmd = .illegalCommand s.cmd ∧ t = raiseFault .illegalCommand s) := by
  cases h with
  | dispatch q hs hq hc ht => exact .inl ⟨hc, q, ht⟩
  | illegal hs hc ht => exact .inr ⟨hc, ht⟩
  | _ => simp_all

/-- HALTED is entered by a model fault only (R214, R215). -/
theorem Turn.of_halted (h : Turn s t) (hq : t.seq = .halted) :
    (s.seq = .idle ∧ decodeCommand s.cmd = .illegalCommand s.cmd ∧
      t = raiseFault .illegalCommand s) ∨
    (s.seq = .dDecode ∧ s.frameValid = false ∧ t = raiseFault .decodeEmpty s) ∨
    (s.seq = .dDecode ∧ s.frameValid = true ∧
      dec machineParams (heldBytes s) = .shortSensor ∧ t = raiseFault .shortSensor s) := by
  cases h with
  | illegal hs hc ht => exact .inl ⟨hs, hc, ht⟩
  | decodeEmpty hs hv ht => exact .inr (.inl ⟨hs, hv, ht⟩)
  | shortSensor hs hv hd ht => exact .inr (.inr ⟨hs, hv, hd, ht⟩)
  | dispatch q hs hq' hc ht => rcases hq' with rfl | rfl | rfl <;> simp [ht] at hq
  | releaseOn q hs hq' ht => rcases hq' with rfl | rfl <;> simp [ht] at hq
  | interval hs ht => rcases pInterval_seq s with h | h <;> simp [ht, h, hs] at hq
  | _ => simp_all

end

/-! ### The statements -/

/-- One step is a block reset, a move that leaves every register but CMD and busy, or the running
command's step. -/
theorem step_reset_or_turn {s t : State} (h : step s = .next t) :
    (∃ rest, s.env.inputs = .blockReset :: rest ∧ t = blockReset (withInputs rest s)) ∨
    (∃ w b e, t = { s with cmd := w, busy := b, env := e }) ∨
    (∃ moves, (s.seq = .idle → s.busy = true) ∧ Turn (withInputs moves s) t) := by
  cases step_move h with
  | blockReset rest hi ht => exact .inl ⟨rest, hi, ht⟩
  | command w rest hi hb hq ht => exact .inr (.inl ⟨w, true, _, ht⟩)
  | environment e ht => exact .inr (.inl ⟨s.cmd, s.busy, e, ht⟩)
  | turn moves hq hb hx => exact .inr (.inr ⟨moves, hb, exec_turn hx⟩)

/-- Settles O14: the block's own turn never writes CMD, so the Commander's move and the reset remain. -/
theorem onlyTheCommanderWritesCmd : Obligations.OnlyTheCommanderWritesCmd := by
  unfold Obligations.OnlyTheCommanderWritesCmd
  intro s t h hne
  cases step_move h with
  | blockReset rest hi ht => exact .inr ⟨rest, hi⟩
  | command w rest hi hb hq ht => exact .inl ⟨w, rest, hi, hb, hq, by rw [ht]; rfl⟩
  | environment e ht => exact absurd (by rw [ht]) hne
  | turn moves hq hb hx => exact absurd (exec_turn hx).cmd_eq hne

/-- Settles O15, by `Turn.tsMode_cases`. -/
theorem onlyTseqDrivesTheLine : Obligations.OnlyTseqDrivesTheLine := by
  unfold Obligations.OnlyTseqDrivesTheLine
  intro s t h hne
  rcases step_reset_or_turn h with ⟨rest, hi, rfl⟩ | ⟨w, b, e, rfl⟩ | ⟨moves, -, hturn⟩
  · exact .inr (.inr ⟨rest, hi, rfl⟩)
  · exact absurd rfl hne
  · exact (hturn.tsMode_cases.resolve_left hne).imp_right .inl

/-- Settles O16, by `Turn.frame_cases`. -/
theorem onlyTheDrainWritesTheFrame : Obligations.OnlyTheDrainWritesTheFrame := by
  unfold Obligations.OnlyTheDrainWritesTheFrame
  intro s t h hne
  have changed : ¬ (t.frame = s.frame ∧ t.frameLen = s.frameLen) := not_and_or.mpr hne
  rcases step_reset_or_turn h with ⟨rest, hi, rfl⟩ | ⟨w, b, e, rfl⟩ | ⟨moves, -, hturn⟩
  · exact .inr ⟨rest, hi⟩
  · exact absurd ⟨rfl, rfl⟩ changed
  · have hdrain := hturn.frame_cases.resolve_left changed
    rw [memRead_withInputs_answer] at hdrain
    exact .inl hdrain

/-- Settles O17, by `Turn.frameValid_cases`. -/
theorem frameValidWriters : Obligations.FrameValidWriters := by
  unfold Obligations.FrameValidWriters
  intro s t h hne
  rcases step_reset_or_turn h with ⟨rest, hi, rfl⟩ | ⟨w, b, e, rfl⟩ | ⟨moves, -, hturn⟩
  · exact .inr (.inr ⟨rfl, rest, hi⟩)
  · exact absurd rfl hne
  · have hwrite := hturn.frameValid_cases.resolve_left hne
    rw [memRead_withInputs_answer] at hwrite
    exact hwrite.imp_right .inl

/-- Below its budget the attempt counter does not wrap. -/
theorem toNat_succ_of_lt {n m : Byte} (h : n < m) : (n + 1).toNat = n.toNat + 1 ∧ n + 1 ≤ m := by
  constructor <;> bv_omega

/-- Settles O18, by `Turn.waitRegisters_cases`; the precondition of P_ATTEMPT excludes the wrap. -/
theorem waitRegistersWriters : Obligations.WaitRegistersWriters := by
  unfold Obligations.WaitRegistersWriters
  intro s t h hne
  have changed : ¬ (t.pExpected = s.pExpected ∧ t.pMax = s.pMax ∧ t.pTries = s.pTries) := by
    simpa only [not_and_or] using hne
  rcases step_reset_or_turn h with ⟨rest, hi, rfl⟩ | ⟨w, b, e, rfl⟩ | ⟨moves, -, hturn⟩
  · exact .inr (.inr ⟨rest, hi⟩)
  · exact absurd ⟨rfl, rfl, rfl⟩ changed
  · rcases hturn.waitRegisters_cases.resolve_left changed with hstart | ⟨hs, he, hm, hlt, htries⟩
    · exact .inl hstart
    · obtain ⟨hnat, hle⟩ := toNat_succ_of_lt hlt
      exact .inr (.inl ⟨hs, he, hm, by rw [htries]; exact hnat, by rw [htries, hm]; exact hle⟩)

/-- Settles O19, by `Turn.evq_cases`. -/
theorem eventsChangeOnlyAtDispatchAndDecode : Obligations.EventsChangeOnlyAtDispatchAndDecode := by
  unfold Obligations.EventsChangeOnlyAtDispatchAndDecode
  intro s t h hne
  rcases step_reset_or_turn h with ⟨rest, hi, rfl⟩ | ⟨w, b, e, rfl⟩ | ⟨moves, hb, hturn⟩
  · exact .inr (.inr ⟨rest, hi, rfl⟩)
  · exact absurd rfl hne
  · rcases hturn.evq_cases.resolve_left hne with ⟨hs, he⟩ | hdec
    · exact .inl ⟨hs, hb hs, he⟩
    · exact .inr (.inl hdec)

/-- Settles O22: a command's step keeps FAULT or sets one more bit of it. -/
theorem faultBitsAreSticky : Obligations.FaultBitsAreSticky := by
  unfold Obligations.FaultBitsAreSticky
  intro s t h hno i hbit
  rcases step_reset_or_turn h with ⟨rest, hi, rfl⟩ | ⟨w, b, e, rfl⟩ | ⟨moves, -, hturn⟩
  · exact absurd hi (hno rest)
  · exact hbit
  · rcases hturn.fault_cases with he | ⟨f, hf⟩
    · rw [he]; exact hbit
    · rw [hf, getLsbD_setFaultBit, withInputs_fault, hbit, Bool.or_true]

/-- Settles O13: the first clause is the Commander's move; with busy = 1 the Commander is not ready. -/
theorem commanderWritesOnlyWhenIdle : Obligations.CommanderWritesOnlyWhenIdle := by
  unfold Obligations.CommanderWritesOnlyWhenIdle
  intro s w rest hin
  have hstep : step s = if commanderReady s then .next (acceptCommand w (withInputs rest s))
      else spbTurn s := by
    simp only [step, advance, hin]
  constructor
  · intro hb hq
    rw [hstep, if_pos ((commanderReady_iff s).mpr ⟨hb, hq⟩)]
    rfl
  · intro hb hq
    have hnot : ¬ commanderReady s = true := fun hc => by
      simp [((commanderReady_iff s).mp hc).1] at hb
    rw [hstep, if_neg hnot]
    exact spbTurn_eq_exec hq fun _ => hb

end Sys2Proof.Machine

/-! Good states (R26, R20 to R22): `GoodState` cut into the registers' own clauses and those that place a
running command; each sequencer state's step keeps both, and from a good state there always is a step.
Then the statements that rest on good states, and those about the ports. -/

namespace Sys2Proof.Machine

/-! ### A good state, cut in two -/

/-- The clauses of `GoodState` on the registers of a block that is not halted, wherever its sequencer
stands. -/
structure Sound (s : State) : Prop where
  frameLen : s.frameValid = true → s.frameLen = 32
  tries : s.pTries ≤ s.pMax
  fv : statusFv s.status = s.frameValid
  halt : statusHalt s.status = false
  evcnt : statusEvcnt s.status = BitVec.ofNat 3 s.evq.length
  reserved : s.status &&& statusReserved = 0
  res : statusRes s.status < 12
  fault : s.fault = 0
  evq : s.evq.length ≤ 4

/-- The clauses of `GoodState` that place a command past its dispatch. -/
structure Running (s : State) : Prop where
  busy : s.busy = true
  evq : s.evq = []
  line : LineInv s
  budget : s.seq = .pAttempt ∨ s.seq = .pInterval → s.pTries < s.pMax
  enters : entersSeq (decodeCommand s.cmd) s.seq = true
  transport : TransportInv s
  triesCopy : isAwait (decodeCommand s.cmd) = true → s.seq ≠ .pStart →
    statusTries s.status = s.pTries

section
variable {i : Instr} {q : Seq}

/-! ### The states of a command -/

theorem entersSeq_ne_idle_halted (h : entersSeq i q = true) : q ≠ .idle ∧ q ≠ .halted := by
  constructor <;> rintro rfl <;> cases i <;> simp [entersSeq] at h

theorem usesTransport_of_entersSeq (h : entersSeq i q = true) (hq : isTseq q) :
    usesTransport i = true := by
  cases i with
  | decode => rcases hq with rfl | rfl | rfl | rfl <;> simp [entersSeq] at h
  | tryReadFrame => rfl
  | awaitStatus e m => rfl
  | pollOnce => rfl
  | _ => simp [entersSeq] at h

theorem entersSeq_of_usesTransport (h : usesTransport i = true) (hq : isTseq q) :
    entersSeq i q = true := by
  cases i <;> simp_all [usesTransport, entersSeq]

theorem isAwait_of_entersSeq (h : entersSeq i q = true) (hq : isSap q) : isAwait i = true := by
  cases i with
  | awaitStatus e m => rfl
  | tryReadFrame => rcases hq with rfl | rfl | rfl | rfl <;> simp [entersSeq] at h
  | decode => rcases hq with rfl | rfl | rfl | rfl <;> simp [entersSeq] at h
  | pollOnce => rcases hq with rfl | rfl | rfl | rfl <;> simp [entersSeq] at h
  | _ => simp [entersSeq] at h

theorem entersSeq_of_isAwait (h : isAwait i = true) (hq : isTseq q ∨ isSap q) :
    entersSeq i q = true := by
  cases i <;> simp_all [isAwait, entersSeq]

theorem usesTransport_cases (h : usesTransport i = true) :
    i = .tryReadFrame ∨ (∃ e m, i = .awaitStatus e m) ∨ i = .pollOnce := by
  cases i <;> simp_all [usesTransport]

theorem isAwait_cases (h : isAwait i = true) : ∃ e m, i = .awaitStatus e m := by
  cases i <;> simp_all [isAwait]

theorem entersSeq_dDecode_cases (h : entersSeq i .dDecode = true) :
    i = .decode ∨ i = .pollOnce := by
  cases i <;> simp_all [entersSeq]

end

section
variable {s : State}

/-- A good state is sound while the block is not halted. -/
theorem GoodState.sound (h : GoodState s) (hq : s.seq ≠ .halted) : Sound s := by
  obtain ⟨⟨-, -, -, hlen, -⟩, ⟨htries, -⟩, -, -, ⟨hfv, hhalt, hcnt, -, hres0, hres⟩, hfault, ⟨hevq, -⟩⟩ := h
  exact {
    frameLen := hlen, tries := htries, fv := hfv, evcnt := hcnt, reserved := hres0, evq := hevq
    halt := by simpa [hq] using hhalt
    res := hres.resolve_right fun hr => hq hr.2
    fault := (hfault.resolve_right fun hf => hq hf.1).2 }

/-- A good state past a dispatch is on the running command's way. -/
theorem GoodState.running (h : GoodState s) (hi : s.seq ≠ .idle) (hh : s.seq ≠ .halted) :
    Running s := by
  obtain ⟨⟨hline, -, hbusy, -, -⟩, ⟨-, hbudget⟩, hseq, htrans, ⟨-, -, -, hcopy, -, -⟩, -, ⟨-, hevq⟩⟩ := h
  have henters := (hseq.resolve_left hi).resolve_left hh
  refine ⟨by simpa using mt hbusy hi, hevq hi hh, hline, hbudget, henters, htrans, ?_⟩
  intro hawait hstart
  apply hcopy hawait
  cases hq : s.seq with
  | dDecode =>
    rw [hq] at henters
    rcases entersSeq_dDecode_cases henters with hc | hc <;> simp [hc, isAwait] at hawait
  | _ => simp_all [isTseq]

theorem GoodState.released (h : GoodState s) (hq : s.seq = .idle ∨ s.seq = .halted) :
    s.tsMode = .inPu := h.1.2.1 hq

/-- Past its dispatch a command is in a good state when both parts hold. -/
theorem goodState_of_running (h : Sound s) (hr : Running s) : GoodState s := by
  obtain ⟨hidle, hhalted⟩ := entersSeq_ne_idle_halted hr.enters
  refine ⟨⟨hr.line, ?released, ?busy, h.frameLen, fun _ _ => h.tries⟩, ⟨h.tries, hr.budget⟩,
    .inr (.inr hr.enters), hr.transport,
    ⟨h.fv, ?halt, h.evcnt, ?triesCopy, h.reserved, .inl h.res⟩, .inl ⟨hhalted, h.fault⟩,
    h.evq, fun _ _ => hr.evq⟩
  case released => exact fun hq => (hq.elim hidle hhalted).elim
  case busy => simp [hr.busy]
  case halt => simp [h.halt, hhalted]
  case triesCopy =>
    intro hawait hq
    exact hr.triesCopy hawait fun hs => by simp [hs, isTseq] at hq

/-- In IDLE with the line released nothing more is asked. -/
theorem goodState_of_idle (h : Sound s) (hq : s.seq = .idle) (hl : s.tsMode = .inPu) :
    GoodState s := by
  refine ⟨⟨?_, fun _ => hl, fun _ => hq, h.frameLen, fun _ _ => h.tries⟩, ⟨h.tries, ?_⟩, .inl hq, ?_,
    ⟨h.fv, ?_, h.evcnt, ?_, h.reserved, .inl h.res⟩, .inl ⟨?_, h.fault⟩, h.evq, ?_⟩ <;>
    simp [hq, hl, h.halt, LineInv, lineHeld, TransportInv, isTseq]

end

/-! ### What keeps the registers sound -/

section
variable {s : State}

theorem Sound.setFrameValid_false (h : Sound s) : Sound (setFrameValid false s) := by
  cases h; constructor <;> simp_all

theorem Sound.setXfer (h : Sound s) (x : Xfer) : Sound (setXfer x s) := by
  cases h; constructor <;> simpa

theorem Sound.setTries (h : Sound s) {n : Byte} (hn : n ≤ s.pMax) : Sound (setTries n s) := by
  cases h; constructor <;> simpa

theorem Sound.complete (h : Sound s) {r : Res} (hr : r.code < 12) : Sound (complete r s) := by
  cases h; constructor <;> simpa

theorem Sound.goto (h : Sound s) (q : Seq) : Sound (goto q s) := by
  cases h; constructor <;> simpa

theorem Sound.dispatchTo (h : Sound s) (q : Seq) : Sound (dispatchTo q s) := by
  cases h; constructor <;> simp_all

theorem Sound.emitAll (h : Sound s) (he : s.evq = []) {recs : List Event} (hn : recs.length ≤ 4) :
    Sound (emitAll recs s) := by
  cases h; constructor <;> simp_all

theorem Sound.withEnv (h : Sound s) (e : Env) : Sound { s with env := e } := by
  cases h; constructor <;> assumption

theorem Sound.withTsMode (h : Sound s) (m : TsMode) : Sound { s with tsMode := m } := by
  cases h; constructor <;> assumption

theorem Sound.withFrame (h : Sound s) (b : Window) :
    Sound (Machine.setFrameValid true { s with frame := b, frameLen := 32 }) := by
  cases h; constructor <;> simp_all

theorem Sound.sampleLine (h : Sound s) : Sound (sampleLine s).2 := by
  rw [sampleLine_registers]; exact h.withEnv _

theorem Sound.memRead (h : Sound s) : Sound (memRead s).2 := by
  rw [memRead_registers]; exact h.withEnv _

/-- A command that completes with the line released leaves a good state. -/
theorem Sound.goodState_complete (h : Sound s) {r : Res} (hr : r.code < 12) (hl : s.tsMode = .inPu) :
    GoodState (Machine.complete r s) :=
  goodState_of_idle (h.complete hr) rfl hl

/-- One of the two reachable model faults, taken with the line released, leaves a good state (R26,
R214). -/
theorem Sound.goodState_raiseFault (h : Sound s) {f : ModelFault} (hf : f ≠ .shortSensor)
    (hb : s.busy = true) (hl : s.tsMode = .inPu) : GoodState (raiseFault f s) := by
  have hbit : setFaultBit f 0 = 1 ∨ setFaultBit f 0 = 2 := by
    cases f with
    | illegalCommand => exact .inl (by decide)
    | decodeEmpty => exact .inr (by decide)
    | shortSensor => exact absurd rfl hf
  refine ⟨⟨?_, fun _ => hl, ?_, h.frameLen, fun _ _ => h.tries⟩, ⟨h.tries, ?_⟩, .inr (.inl rfl), ?_,
    ⟨?_, ?_, ?_, ?_, ?_, .inr ⟨?_, rfl⟩⟩, .inr ⟨rfl, hb, ?fault, ?_⟩, h.evq, ?_⟩
  case fault => rw [raiseFault_fault, h.fault]; exact hbit
  all_goals
    simp [hl, hb, LineInv, lineHeld, TransportInv, isTseq, BusyInv, h.fv, h.evcnt, h.reserved, Res.code]

end

/-! ### What D_DECODE emits -/

theorem encSensor_length (p : Params) (f : SensorFields) : (encSensor p f).length ≤ 4 := by
  have hpos := posRecords_length p.tie f
  have hges := gesRecords_length p.unmapped f
  have htch := tchRecords_length f
  have hawl := awlRecords_length f
  simp only [encSensor, List.length_append]
  omega

/-- A class has a result code below 12, and at most four records come with it (R84, R87). -/
theorem dec_bounded {p : Params} {b : List Byte} {cls : Res} {recs : List Event}
    (h : dec p b = .decoded cls recs) : cls.code < 12 ∧ recs.length ≤ 4 := by
  unfold dec at h
  split at h
  · cases h; exact ⟨by decide, by decide⟩
  split at h
  · split at h
    · cases h
    · cases h; exact ⟨(by decide : Res.decSensor.code < 12), encSensor_length _ _⟩
  split at h
  · cases h; exact ⟨by decide, by decide⟩
  split at h
  · cases h; exact ⟨(by decide : Res.decFirmware.code < 12), Nat.le_add_left 1 3⟩
  split at h <;> cases h <;> exact ⟨by decide, by decide⟩

/-- With a frame held in a good state `Dec` is never ShortSensor: the frame has 32 bytes (R144). -/
theorem Sound.dec_ne_shortSensor {s : State} (h : Sound s) (hv : s.frameValid = true) (p : Params) :
    dec p (heldBytes s) ≠ .shortSensor := by
  apply dec_window
  simp [heldBytes, h.frameLen hv]

/-! ### What the command decides in its step -/

section
variable {s t : State}

/-- Dispatch: the first state is one of the command's, P_START for a wait and T_READY for POLL_ONCE
(R82, R100, R120, R140, R200). -/
theorem dispatch_entry (hs : s.seq = .idle) (hx : exec (decodeCommand s.cmd) s = .next t) :
    t = raiseFault .illegalCommand s ∨
    ∃ q, t = dispatchTo q s ∧ (q = .tReady ∨ q = .pStart ∨ q = .dDecode) ∧
      entersSeq (decodeCommand s.cmd) q = true ∧
      (isAwait (decodeCommand s.cmd) = true → q = .pStart) ∧
      (decodeCommand s.cmd = .pollOnce → q = .tReady) := by
  rcases decodeCommand_cases s.cmd with hc | hc | hc | hc | hc <;> rw [hc] at hx ⊢
  · left; simpa [exec, execIllegalCommand, hs] using hx.symm
  · exact .inr ⟨.tReady, by simpa [exec, execTryReadFrame, hs] using hx.symm, by decide⟩
  · exact .inr ⟨.pStart, by simpa [exec, execAwaitStatus, hs] using hx.symm, by simp [entersSeq]⟩
  · exact .inr ⟨.dDecode, by simpa [exec, execDecode, hs] using hx.symm, by decide⟩
  · exact .inr ⟨.tReady, by simpa [exec, execPollOnce, hs] using hx.symm, by decide⟩

/-- T_READY reaches P_MATCH through the exit only: with the line low it goes on to T_FREEZE (R102). -/
theorem tReady_seq_ne_pMatch {exit : State → Out} (hexit : ∀ u, exit u = .next t → t.seq ≠ .pMatch)
    (h : tReady exit s = .next t) : t.seq ≠ .pMatch := by
  obtain ⟨-, ⟨-, he⟩ | ⟨-, rfl⟩⟩ := tReady_next h
  · exact hexit _ he
  · simp

/-- Only a wait goes from T_READY to P_MATCH; the other commands complete there (R106). -/
theorem isAwait_of_tReady_to_pMatch (hs : s.seq = .tReady)
    (hx : exec (decodeCommand s.cmd) s = .next t) (ht : t.seq = .pMatch) :
    isAwait (decodeCommand s.cmd) = true := by
  rcases decodeCommand_cases s.cmd with hc | hc | hc | hc | hc <;> rw [hc] at hx ⊢
  · simp [exec, execIllegalCommand, hs] at hx
  · simp only [exec, execTryReadFrame, hs] at hx
    refine absurd ht (tReady_seq_ne_pMatch (fun u hu => ?_) hx)
    rcases exitTryReadFrame_next hu with ⟨-, rfl⟩ | ⟨-, rfl⟩ | ⟨-, rfl⟩ <;> simp
  · rfl
  · simp [exec, execDecode, hs] at hx
  · simp only [exec, execPollOnce, hs] at hx
    refine absurd ht (tReady_seq_ne_pMatch (fun u hu => ?_) hx)
    rcases exitPollOnce_cases u with ⟨-, h'⟩ | ⟨-, h'⟩ <;> rw [h'] at hu <;> cases hu <;> simp

/-- T_RELEASE releases the line; then the command completes, or a wait goes on to P_MATCH, or POLL_ONCE
goes on to D_DECODE with a frame (R105, R106). -/
theorem tRelease_exit (hs : s.seq = .tRelease) (hx : exec (decodeCommand s.cmd) s = .next t) :
    (∃ r, r.code < 12 ∧ t = complete r { s with tsMode := .inPu }) ∨
    (isAwait (decodeCommand s.cmd) = true ∧ t = goto .pMatch { s with tsMode := .inPu }) ∨
    (decodeCommand s.cmd = .pollOnce ∧ xferOf s = .frame ∧
      t = goto .dDecode { s with tsMode := .inPu }) := by
  rcases decodeCommand_cases s.cmd with hc | hc | hc | hc | hc <;> rw [hc] at hx ⊢
  · simp [exec, execIllegalCommand, hs] at hx
  · simp only [exec, execTryReadFrame, hs] at hx
    rcases exitTryReadFrame_next hx with ⟨-, ht⟩ | ⟨-, ht⟩ | ⟨-, ht⟩ <;>
      exact .inl ⟨_, by decide, ht⟩
  · simp only [exec, execAwaitStatus, hs] at hx
    exact .inr (.inl ⟨rfl, (Host.Outcome.next.inj hx).symm⟩)
  · simp [exec, execDecode, hs] at hx
  · simp only [exec, execPollOnce, hs] at hx
    unfold tRelease at hx
    rcases exitPollOnce_cases { s with tsMode := .inPu } with ⟨hf, h'⟩ | ⟨-, h'⟩ <;> rw [h'] at hx
    · exact .inr (.inr ⟨rfl, hf, (Host.Outcome.next.inj hx).symm⟩)
    · exact .inl ⟨_, by decide, (Host.Outcome.next.inj hx).symm⟩

/-! ### Each sequencer state keeps the invariants -/

/-- Past its dispatch a command that is not at T_DRAIN or T_RELEASE has the line released (R26.1). -/
theorem Running.released (h : Running s) (hq : ¬ lineHeld s.seq) : s.tsMode = .inPu := by
  have hline := mt h.line.mp hq
  cases hm : s.tsMode with
  | inPu => rfl
  | outLow => exact absurd hm hline

theorem dispatch_keeps_goodState (h : GoodState s) (hs : s.seq = .idle) (hb : s.busy = true)
    (hx : exec (decodeCommand s.cmd) s = .next t) : GoodState t := by
  have hsound := h.sound (by simp [hs])
  have hl := h.released (.inl hs)
  rcases dispatch_entry hs hx with rfl | ⟨q, rfl, hq, henters, hawait, hpoll⟩
  · exact hsound.goodState_raiseFault (by decide) hb hl
  · exact goodState_of_running (hsound.dispatchTo q) {
      busy := hb
      evq := rfl
      line := by rcases hq with rfl | rfl | rfl <;> simp [LineInv, lineHeld, hl]
      budget := by rcases hq with rfl | rfl | rfl <;> simp
      enters := henters
      transport := by rcases hq with rfl | rfl | rfl <;> simp_all [TransportInv]
      triesCopy := fun ha hstart => absurd (hawait ha) hstart }

theorem tReady_keeps_goodState (h : GoodState s) (hs : s.seq = .tReady)
    (hx : exec (decodeCommand s.cmd) s = .next t) : GoodState t := by
  have hr := h.running (by simp [hs]) (by simp [hs])
  have hl := hr.released (by simp [hs, lineHeld])
  have huses := usesTransport_of_entersSeq hr.enters (.inl hs)
  have hsampled : Sound (sampleLine (setFrameValid false s)).2 :=
    (h.sound (by simp [hs])).setFrameValid_false.sampleLine
  cases exec_turn hx with
  | readyDone r _ hr' _ ht =>
    subst ht
    exact (hsampled.setXfer _).goodState_complete (by rcases hr' with rfl | rfl <;> decide) (by simpa)
  | readyMatch _ _ ht =>
    subst ht
    have hawait := isAwait_of_tReady_to_pMatch hs hx rfl
    exact goodState_of_running ((hsampled.setXfer _).goto _) {
      busy := by simp [hr.busy]
      evq := by simp [hr.evq]
      line := by simp [LineInv, lineHeld, hl]
      budget := by simp
      enters := entersSeq_of_isAwait (by simpa) (by simp [isSap])
      transport := by simp [TransportInv, xferOf]
      triesCopy := fun _ _ => by simpa using hr.triesCopy hawait (by simp [hs]) }
  | readyFreeze _ _ ht =>
    subst ht
    exact goodState_of_running (hsampled.goto _) {
      busy := by simp [hr.busy]
      evq := by simp [hr.evq]
      line := by simp [LineInv, lineHeld, hl]
      budget := by simp
      enters := entersSeq_of_usesTransport (by simpa) (by simp [isTseq])
      transport := by simp [TransportInv]
      triesCopy := fun ha _ => by simpa using hr.triesCopy (by simpa using ha) (by simp [hs]) }
  | _ => simp_all

theorem tFreeze_keeps_goodState (h : GoodState s) (hs : s.seq = .tFreeze) : GoodState (tFreeze s) := by
  have hr := h.running (by simp [hs]) (by simp [hs])
  have huses := usesTransport_of_entersSeq hr.enters (.inr (.inl hs))
  exact goodState_of_running (((h.sound (by simp [hs])).withTsMode _).goto _) {
    busy := hr.busy
    evq := hr.evq
    line := by simp [LineInv, lineHeld]
    budget := by simp
    enters := entersSeq_of_usesTransport huses (by simp [isTseq])
    transport := by simpa [TransportInv] using hr.transport.1 (.inl hs)
    triesCopy := fun ha _ => hr.triesCopy ha (by simp [hs]) }

theorem tDrain_keeps_goodState (h : GoodState s) (hs : s.seq = .tDrain) : GoodState (tDrain s) := by
  have hr := h.running (by simp [hs]) (by simp [hs])
  have hl : s.tsMode = .outLow := hr.line.mpr (.inl hs)
  have hempty := hr.transport.1 (.inr hs)
  have hread : Sound (memRead s).2 := (h.sound (by simp [hs])).memRead
  have henters : entersSeq (decodeCommand s.cmd) .tRelease = true :=
    entersSeq_of_usesTransport (usesTransport_of_entersSeq hr.enters (.inr (.inr (.inl hs))))
      (by simp [isTseq])
  have hcopy := fun ha => hr.triesCopy ha (by simp [hs])
  rcases tDrain_cases s with ⟨b, -, ht⟩ | ⟨-, ht⟩ <;> rw [ht]
  · exact goodState_of_running (((hread.withFrame b).setXfer _).goto _) {
      busy := by simp [hr.busy]
      evq := by simp [hr.evq]
      line := by simp [LineInv, lineHeld, hl]
      budget := by simp
      enters := by simpa using henters
      transport := by simp [TransportInv, xferOf]
      triesCopy := fun ha _ => by simpa using hcopy (by simpa using ha) }
  · exact goodState_of_running ((hread.setXfer _).goto _) {
      busy := by simp [hr.busy]
      evq := by simp [hr.evq]
      line := by simp [LineInv, lineHeld, hl]
      budget := by simp
      enters := by simpa using henters
      transport := by simp [TransportInv, xferOf, hempty]
      triesCopy := fun ha _ => by simpa using hcopy (by simpa using ha) }

theorem tRelease_keeps_goodState (h : GoodState s) (hs : s.seq = .tRelease)
    (hx : exec (decodeCommand s.cmd) s = .next t) : GoodState t := by
  have hr := h.running (by simp [hs]) (by simp [hs])
  have hsound := (h.sound (by simp [hs])).withTsMode .inPu
  obtain ⟨hxfer, hframe⟩ := hr.transport.2.1 (.inl hs)
  rcases tRelease_exit hs hx with ⟨r, hcode, rfl⟩ | ⟨hawait, rfl⟩ | ⟨hpoll, hf, rfl⟩
  · exact hsound.goodState_complete hcode rfl
  · exact goodState_of_running (hsound.goto _) {
      busy := hr.busy
      evq := hr.evq
      line := by simp [LineInv, lineHeld]
      budget := by simp
      enters := entersSeq_of_isAwait hawait (by simp [isSap])
      transport := by simpa [TransportInv] using ⟨hxfer, hframe⟩
      triesCopy := fun ha _ => hr.triesCopy ha (by simp [hs]) }
  · exact goodState_of_running (hsound.goto _) {
      busy := hr.busy
      evq := hr.evq
      line := by simp [LineInv, lineHeld]
      budget := by simp
      enters := by simp [hpoll, entersSeq]
      transport := by simpa [TransportInv] using fun _ => hframe.mp hf
      triesCopy := by simp [hpoll, isAwait] }

theorem pStart_keeps_goodState (h : GoodState s) (hs : s.seq = .pStart) (e m : Byte) :
    GoodState (pStart e m s) := by
  have hr := h.running (by simp [hs]) (by simp [hs])
  have hl := hr.released (by simp [hs, lineHeld])
  have hawait := isAwait_of_entersSeq hr.enters (.inl hs)
  have hloaded : Sound (setTries 0 { s with pExpected := e, pMax := m }) := by
    obtain ⟨hlen, -, hfv, hhalt, hcnt, hres0, hres, hfault, hevq⟩ := h.sound (by simp [hs])
    have hzero : (0 : Byte) ≤ m := by bv_omega
    exact ⟨hlen, hzero, by simpa, by simpa, by simpa, by simpa, by simpa, hfault, hevq⟩
  unfold pStart
  dsimp only
  split
  case isTrue => exact hloaded.goodState_complete (by decide) (by simpa)
  case isFalse hm =>
    have hbudget : (0 : Byte) < m := by bv_omega
    exact goodState_of_running (hloaded.goto _) {
      busy := hr.busy
      evq := hr.evq
      line := by simp [LineInv, lineHeld, hl]
      budget := fun _ => hbudget
      enters := entersSeq_of_isAwait hawait (by simp [isSap])
      transport := by simp [TransportInv]
      triesCopy := by simp }

theorem pAttempt_keeps_goodState (h : GoodState s) (hs : s.seq = .pAttempt) (hp : s.pTries < s.pMax) :
    GoodState (goto .tReady (setTries (s.pTries + 1) s)) := by
  have hr := h.running (by simp [hs]) (by simp [hs])
  have hl := hr.released (by simp [hs, lineHeld])
  have hawait := isAwait_of_entersSeq hr.enters (.inr (.inl hs))
  have hcounted := (h.sound (by simp [hs])).setTries (toNat_succ_of_lt hp).2
  exact goodState_of_running (hcounted.goto _) {
    busy := hr.busy
    evq := hr.evq
    line := by simp [LineInv, lineHeld, hl]
    budget := by simp
    enters := entersSeq_of_isAwait hawait (by simp [isTseq])
    transport := by simp [TransportInv]
    triesCopy := by simp }

theorem pMatch_keeps_goodState (h : GoodState s) (hs : s.seq = .pMatch) : GoodState (pMatch s) := by
  have hr := h.running (by simp [hs]) (by simp [hs])
  have hl := hr.released (by simp [hs, lineHeld])
  have hsound := h.sound (by simp [hs])
  have hawait := isAwait_of_entersSeq hr.enters (.inr (.inr (.inl hs)))
  rcases pMatch_cases s with ⟨-, ht⟩ | ⟨-, -, ht⟩ | ⟨-, -, ⟨-, ht⟩ | ⟨hne, ht⟩⟩ <;> rw [ht]
  · exact hsound.goodState_complete (by decide) hl
  · exact hsound.setFrameValid_false.goodState_complete (by decide) hl
  · exact hsound.setFrameValid_false.goodState_complete (by decide) hl
  · exact goodState_of_running (hsound.setFrameValid_false.goto _) {
      busy := hr.busy
      evq := hr.evq
      line := by simp [LineInv, lineHeld, hl]
      budget := fun _ => BitVec.lt_of_le_ne hsound.tries hne
      enters := entersSeq_of_isAwait hawait (by simp [isSap])
      transport := by simp [TransportInv]
      triesCopy := fun ha _ => by simpa using hr.triesCopy ha (by simp [hs]) }

theorem pInterval_keeps_goodState (h : GoodState s) (hs : s.seq = .pInterval) :
    GoodState (pInterval s) := by
  have hr := h.running (by simp [hs]) (by simp [hs])
  have hl := hr.released (by simp [hs, lineHeld])
  have hawait := isAwait_of_entersSeq hr.enters (.inr (.inr (.inr hs)))
  rcases pInterval_cases s with ⟨rest, -, ht⟩ | ⟨-, ht⟩ <;> rw [ht]
  · exact goodState_of_running (((h.sound (by simp [hs])).withEnv _).goto _) {
      busy := hr.busy
      evq := hr.evq
      line := by simp [LineInv, lineHeld, hl]
      budget := fun _ => hr.budget (.inr hs)
      enters := entersSeq_of_isAwait hawait (by simp [isSap])
      transport := by simp [TransportInv]
      triesCopy := fun ha _ => hr.triesCopy ha (by simp [hs]) }
  · exact h

theorem deliver_keeps_goodState (h : GoodState s) (hs : s.seq = .dDecode) {r cls : Res}
    {recs : List Event} (hd : dec machineParams (heldBytes s) = .decoded cls recs)
    (hr : r = cls ∨ r = .pollDone) : GoodState (deliver r recs s) := by
  have hrun := h.running (by simp [hs]) (by simp [hs])
  have hl := hrun.released (by simp [hs, lineHeld])
  obtain ⟨hcls, hrecs⟩ := dec_bounded hd
  have hcode : r.code < 12 := by
    rcases hr with rfl | rfl
    · exact hcls
    · decide
  exact ((h.sound (by simp [hs])).setFrameValid_false.emitAll hrun.evq hrecs).goodState_complete hcode hl

theorem decodeEmpty_keeps_goodState (h : GoodState s) (hs : s.seq = .dDecode) :
    GoodState (raiseFault .decodeEmpty s) := by
  have hrun := h.running (by simp [hs]) (by simp [hs])
  exact (h.sound (by simp [hs])).goodState_raiseFault (by decide) hrun.busy
    (hrun.released (by simp [hs, lineHeld]))

/-- The running command's step keeps the invariants. -/
theorem exec_keeps_goodState (h : GoodState s) (hb : s.seq = .idle → s.busy = true)
    (hx : exec (decodeCommand s.cmd) s = .next t) : GoodState t := by
  cases exec_turn hx with
  | dispatch q hs hq hc ht => exact dispatch_keeps_goodState h hs (hb hs) hx
  | illegal hs hc ht => exact dispatch_keeps_goodState h hs (hb hs) hx
  | readyDone r hs hr hl ht => exact tReady_keeps_goodState h hs hx
  | readyMatch hs hl ht => exact tReady_keeps_goodState h hs hx
  | readyFreeze hs hl ht => exact tReady_keeps_goodState h hs hx
  | freeze hs ht => exact ht ▸ tFreeze_keeps_goodState h hs
  | drain hs ht => exact ht ▸ tDrain_keeps_goodState h hs
  | releaseDone r hs ht => exact tRelease_keeps_goodState h hs hx
  | releaseOn q hs hq ht => exact tRelease_keeps_goodState h hs hx
  | start e m hs hc ht => exact ht ▸ pStart_keeps_goodState h hs e m
  | attempt hs hp ht => exact ht ▸ pAttempt_keeps_goodState h hs hp
  | poll hs ht => exact ht ▸ pMatch_keeps_goodState h hs
  | interval hs ht => exact ht ▸ pInterval_keeps_goodState h hs
  | decodeEmpty hs hv ht => exact ht ▸ decodeEmpty_keeps_goodState h hs
  | shortSensor hs hv hd ht => exact absurd hd ((h.sound (by simp [hs])).dec_ne_shortSensor hv _)
  | deliver r cls recs hs hv hr hc hd ht => exact ht ▸ deliver_keeps_goodState h hs hd hr

end

/-! ### The statements -/

/-- Settles O3: IDLE with the line released, where only the registers' own clauses are left. -/
theorem resetStateIsGood : Obligations.ResetStateIsGood :=
  goodState_of_idle (by constructor <;> decide) rfl rfl

/-- A good state does not depend on the environment. -/
theorem GoodState.withEnv {s : State} (h : GoodState s) (e : Env) : GoodState { s with env := e } := h

/-- Settles O4: a reset leaves the reset registers, the Commander writes CMD in IDLE, where no clause
speaks of it, and `exec_keeps_goodState` has the block's own step. -/
theorem stepKeepsGoodState : Obligations.StepKeepsGoodState := by
  unfold Obligations.StepKeepsGoodState
  intro s t h hstep
  cases step_move hstep with
  | blockReset rest hi ht => exact ht ▸ GoodState.withEnv resetStateIsGood _
  | command w rest hi hb hq ht =>
    subst ht
    obtain ⟨hlen, htries, hfv, hhalt, hcnt, hres0, hres, hfault, hevq⟩ := h.sound (by simp [hq])
    exact goodState_of_idle ⟨hlen, htries, hfv, hhalt, hcnt, hres0, hres, hfault, hevq⟩ hq
      (h.released (.inl hq))
  | environment e ht => exact ht ▸ h.withEnv e
  | turn moves hq hb hx => exact exec_keeps_goodState (s := withInputs moves s) (h.withEnv _) hb hx

/-! ### A good state always has a step -/

section
variable {s : State}

theorem tReady_steps {exit : State → Out} (hl : s.tsMode = .inPu)
    (he : ∀ u, xferOf u = .noFrame → ∃ t, exit u = .next t) : ∃ t, tReady exit s = .next t := by
  unfold tReady
  rw [hl]
  dsimp only
  split
  · exact he _ (by simp [xferOf])
  · exact ⟨_, rfl⟩

theorem exitTryReadFrame_steps (h : xferOf s ≠ .none) : ∃ t, exitTryReadFrame s = .next t := by
  unfold exitTryReadFrame
  cases hx : xferOf s with
  | none => exact absurd hx h
  | _ => exact ⟨_, rfl⟩

theorem exitPollOnce_steps (s : State) : ∃ t, exitPollOnce s = .next t := by
  rcases exitPollOnce_cases s with ⟨-, h⟩ | ⟨-, h⟩ <;> exact ⟨_, h⟩

theorem dDecode_steps (done : Res → Res) (s : State) : ∃ t, dDecode done s = .next t := by
  rcases dDecode_cases done s with ⟨-, h⟩ | ⟨-, -, h⟩ | ⟨cls, recs, -, -, h⟩ <;> exact ⟨_, h⟩

theorem pAttempt_steps (h : s.pTries < s.pMax) : ∃ t, pAttempt s = .next t := by
  unfold pAttempt
  exact ⟨_, if_pos h⟩

/-- Dispatch never stops. -/
theorem dispatch_steps (hs : s.seq = .idle) : ∃ t, exec (decodeCommand s.cmd) s = .next t := by
  rcases decodeCommand_cases s.cmd with hc | hc | hc | hc | hc <;>
    simp [hc, exec, execIllegalCommand, execTryReadFrame, execAwaitStatus, execDecode, execPollOnce, hs]

/-- R26.1, R106: the line is released before the sample, and XFER is set at the exits. -/
theorem Running.steps_of_tseq (h : Running s) (hq : isTseq s.seq) :
    ∃ t, exec (decodeCommand s.cmd) s = .next t := by
  have huses := usesTransport_cases (usesTransport_of_entersSeq h.enters hq)
  rcases hq with hs | hs | hs | hs
  · have hl := h.released (by simp [hs, lineHeld])
    rcases huses with hc | ⟨e, m, hc⟩ | hc <;>
      simp only [hc, exec, execTryReadFrame, execAwaitStatus, execPollOnce, hs]
    · exact tReady_steps hl fun u hu => exitTryReadFrame_steps (by simp [hu])
    · exact tReady_steps hl fun u _ => ⟨_, rfl⟩
    · exact tReady_steps hl fun u _ => exitPollOnce_steps u
  · rcases huses with hc | ⟨e, m, hc⟩ | hc <;>
      simp [hc, exec, execTryReadFrame, execAwaitStatus, execPollOnce, hs]
  · rcases huses with hc | ⟨e, m, hc⟩ | hc <;>
      simp [hc, exec, execTryReadFrame, execAwaitStatus, execPollOnce, hs]
  · have hxfer := (h.transport.2.1 (.inl hs)).1
    rcases huses with hc | ⟨e, m, hc⟩ | hc <;>
      simp only [hc, exec, execTryReadFrame, execAwaitStatus, execPollOnce, hs]
    · exact exitTryReadFrame_steps hxfer
    · exact ⟨_, rfl⟩
    · exact exitPollOnce_steps _

/-- R122: the budget is not spent at P_ATTEMPT. -/
theorem Running.steps_of_sap (h : Running s) (hq : isSap s.seq) :
    ∃ t, exec (decodeCommand s.cmd) s = .next t := by
  obtain ⟨e, m, hc⟩ := isAwait_cases (isAwait_of_entersSeq h.enters hq)
  rcases hq with hs | hs | hs | hs <;> simp only [hc, exec, execAwaitStatus, hs]
  · exact ⟨_, rfl⟩
  · exact pAttempt_steps (h.budget (.inl hs))
  · exact ⟨_, rfl⟩
  · exact ⟨_, rfl⟩

/-- Only DECODE and POLL_ONCE reach D_DECODE. -/
theorem Running.steps_of_dDecode (h : Running s) (hs : s.seq = .dDecode) :
    ∃ t, exec (decodeCommand s.cmd) s = .next t := by
  rcases entersSeq_dDecode_cases (hs ▸ h.enters) with hc | hc <;>
    simp only [hc, exec, execDecode, execPollOnce, hs] <;> exact dDecode_steps _ s

/-- The block's turn in a good state that is not halted. -/
theorem spbTurn_steps (h : GoodState s) (hh : s.seq ≠ .halted) : ∃ t, spbTurn s = .next t := by
  by_cases hi : s.seq = .idle
  · cases hb : s.busy with
    | false => exact ⟨s, by simp [spbTurn, hi, hb]⟩
    | true => rw [spbTurn_eq_exec hh fun _ => hb]; exact dispatch_steps hi
  · rw [spbTurn_eq_exec hh fun hq => absurd hq hi]
    have hr := h.running hi hh
    cases hq : s.seq with
    | idle => exact absurd hq hi
    | halted => exact absurd hq hh
    | dDecode => exact hr.steps_of_dDecode hq
    | tReady => exact hr.steps_of_tseq (.inl hq)
    | tFreeze => exact hr.steps_of_tseq (.inr (.inl hq))
    | tDrain => exact hr.steps_of_tseq (.inr (.inr (.inl hq)))
    | tRelease => exact hr.steps_of_tseq (.inr (.inr (.inr hq)))
    | pStart => exact hr.steps_of_sap (.inl hq)
    | pAttempt => exact hr.steps_of_sap (.inr (.inl hq))
    | pMatch => exact hr.steps_of_sap (.inr (.inr (.inl hq)))
    | pInterval => exact hr.steps_of_sap (.inr (.inr (.inr hq)))

end

/-- Settles O5: the moves of the other agents always have a next state, and the block's turn has one by
`spbTurn_steps`. -/
theorem goodStateAlwaysSteps : Obligations.GoodStateAlwaysSteps := by
  unfold Obligations.GoodStateAlwaysSteps
  intro s h hh
  have hturn := spbTurn_steps h hh
  rcases step_cases s with ⟨-, hs⟩ | ⟨rest, -, hs⟩ | ⟨rest, -, hs⟩ | ⟨rest, -, ⟨-, hs⟩ | ⟨-, hs⟩⟩ |
    ⟨w, rest, -, ⟨-, hs⟩ | ⟨-, hs⟩⟩ | ⟨b, rest, -, ⟨-, hs⟩ | ⟨-, hs⟩⟩ |
    ⟨rest, -, ⟨-, hs⟩ | ⟨-, hs⟩⟩ <;> rw [hs]
  · exact hturn
  · exact spbTurn_steps (s := withInputs rest s) (h.withEnv _) hh
  · exact ⟨_, rfl⟩
  · exact hturn
  · exact ⟨_, rfl⟩
  · exact ⟨_, rfl⟩
  · exact hturn
  · exact hturn
  · obtain ⟨e, he⟩ := blockWriteTurn_registers b (withInputs rest s)
    exact ⟨_, he⟩
  · exact ⟨_, rfl⟩
  · exact hturn

/-! ### Faults, and the event port -/

/-- Settles O20: `Turn.of_halted` names the three faults, a good state rules out F_SHORT_SENSOR, and the
line is released in IDLE and at D_DECODE (R26). -/
theorem faultsOnlyAtDispatchAndDecode : Obligations.FaultsOnlyAtDispatchAndDecode := by
  unfold Obligations.FaultsOnlyAtDispatchAndDecode
  intro s t h hstep hh ht
  have hsound := h.sound hh
  cases step_move hstep with
  | blockReset rest hi hreset => simp [hreset, State.reset] at ht
  | command w rest hi hb hq hw => simp [hw, hq] at ht
  | environment e he => subst he; exact absurd ht hh
  | turn moves hq hb hx =>
    rcases (exec_turn hx).of_halted ht with ⟨hs, hc, rfl⟩ | ⟨hs, hv, rfl⟩ | ⟨hs, hv, hd, -⟩
    · exact ⟨.inl ⟨hs, by simp [hsound.fault]; decide, hc⟩, h.released (.inl hs), hb hs, rfl⟩
    · rw [withInputs_seq] at hs
      have hr := h.running (by simp [hs]) hh
      have hl := hr.released (by simp [hs, lineHeld])
      exact ⟨.inr ⟨hs, by simp [hsound.fault]; decide, hv⟩, hl, hr.busy, rfl⟩
    · exact absurd hd (hsound.dec_ne_shortSensor hv _)

theorem consumerEvents_of_ready {s : State} (h : s.seq = .idle ∨ s.seq = .halted) :
    consumerEvents s = some s.evq := if_pos ((consumerReady_iff s).mpr h)

theorem consumerEvents_of_running {s : State} (hi : s.seq ≠ .idle) (hh : s.seq ≠ .halted) :
    consumerEvents s = none :=
  if_neg fun hc => ((consumerReady_iff s).mp hc).elim hi hh

/-- Settles O58: in IDLE and in HALTED every move but a legal dispatch keeps `evq` and a state in which
the Consumer reads. -/
theorem recordsStayReadableUntilDispatch : Obligations.RecordsStayReadableUntilDispatch := by
  unfold Obligations.RecordsStayReadableUntilDispatch
  constructor
  · intro s t hq hstep hno
    cases step_move hstep with
    | blockReset rest hi ht => exact absurd hi (hno rest)
    | command w rest hi hb hidle ht =>
      subst ht
      exact .inl ⟨rfl, consumerEvents_of_ready (.inl hidle)⟩
    | environment e ht =>
      subst ht
      exact .inl ⟨rfl, consumerEvents_of_ready hq⟩
    | turn moves hh hb hx =>
      have hidle := hq.resolve_right hh
      rcases (exec_turn hx).of_idle hidle with ⟨hc, q, ht⟩ | ⟨-, ht⟩ <;> subst ht
      · exact .inr ⟨hidle, hb hidle, hc, rfl⟩
      · exact .inl ⟨rfl, consumerEvents_of_ready (.inr rfl)⟩
  · intro s h hnone
    have hi : s.seq ≠ .idle := fun hq => by simp [consumerEvents_of_ready (.inl hq)] at hnone
    have hh : s.seq ≠ .halted := fun hq => by simp [consumerEvents_of_ready (.inr hq)] at hnone
    exact (h.running hi hh).evq

/-- Settles O56: the port views by their conditions, and the D_DECODE step of DECODE, which is
`deliver`. -/
theorem portsAfterDecode : Obligations.PortsAfterDecode := by
  unfold Obligations.PortsAfterDecode
  constructor
  · intro s
    refine ⟨fun hv => ?_, fun hv => ?_, consumerEvents_of_ready, fun _ => consumerEvents_of_running⟩
    · simp [commanderFrame, commanderFrameLen, hv]
    · simp [commanderFrame, commanderFrameLen, hv]
  · intro s cls recs hs hv _ he _ hd
    have hexec : exec .decode s = .next (deliver cls recs s) := by
      simp [exec, execDecode, hs, dDecode, hv, heldBytes, hd, doneDecode]
    refine ⟨by simp [commanderFrame, hv], by simp [commanderFrameLen, hv],
      consumerEvents_of_running (by simp [hs]) (by simp [hs]), deliver cls recs s, hexec, ?_⟩
    rw [consumerEvents_of_ready (.inl rfl), deliver_evq, he]
    simp [commanderFrame, commanderFrameLen, commanderBusy, commanderStatus, commanderFault, drivenLevel]

end Sys2Proof.Machine

/-! The lifecycle controller's block write (R45, R46, R49, R76): what `memWrite` leaves for each answer of
the Bus, what one step is for a listed block write, and the three statements about them. -/

namespace Sys2Proof.Machine

section
variable {s : State} {b : Block} {rest : List Input}

/-! ### The write and the Bus's answer -/

/-- The answer to a write leaves every register as it was. -/
theorem writeAnswer_registers (s : State) :
    (writeAnswer s).2 = { s with env := (writeAnswer s).2.env } := by
  rcases writeAnswer_cases s with ⟨r, draws, -, h⟩ | ⟨-, h⟩ <;> rw [h]

/-- The Bus's answer does not depend on the moves still to come, and leaves them listed. -/
theorem writeAnswer_withInputs (rest : List Input) (s : State) :
    writeAnswer (withInputs rest s) = ((writeAnswer s).1, withInputs rest (writeAnswer s).2) := by
  unfold writeAnswer withInputs; dsimp only; split <;> rfl

/-- R45: a write that completes delivers all 15 bytes. -/
theorem memWrite_of_ok (h : (writeAnswer s).1 = .ok) :
    memWrite b s = { s with
      env := { (writeAnswer s).2.env with devBlock := some b, hostWrite := some .ok } } := by
  rw [memWrite, show writeAnswer s = (.ok, _) from Prod.ext h (writeAnswer_registers s)]

/-- R46: a write that fails delivers nothing. -/
theorem memWrite_of_busError (h : (writeAnswer s).1 = .busError) :
    memWrite b s = { s with env := { (writeAnswer s).2.env with hostWrite := some .busError } } := by
  rw [memWrite, show writeAnswer s = (.busError, _) from Prod.ext h (writeAnswer_registers s)]

/-! ### The bytes of a block -/

/-- A block holds the 15 bytes it is made of. -/
theorem toList_blockOfList {l : List Byte} (h : l.length = 15) : (blockOfList l).toList = l := by
  apply List.ext_getElem
  · simp [h]
  · intro i _ hi
    simp [blockOfList, byteAt, hi]

/-! ### One step for a listed block write -/

theorem step_of_blockWrite (h : s.env.inputs = .blockWrite b :: rest) :
    step s = if s.busy then spbTurn s else blockWriteTurn b (withInputs rest s) := by
  simp only [step, advance, h]

/-- R49: while busy = 0 the write is the move. -/
theorem step_of_blockWrite_free (h : s.env.inputs = .blockWrite b :: rest) (hb : s.busy = false) :
    step s = blockWriteTurn b (withInputs rest s) := by
  rw [step_of_blockWrite h, hb]; rfl

/-- R49: while busy = 1 the controller holds, and the running command takes its step. -/
theorem step_of_blockWrite_held (h : s.env.inputs = .blockWrite b :: rest) (hb : s.busy = true)
    (hq : s.seq ≠ .halted) : step s = exec (decodeCommand s.cmd) s := by
  rw [step_of_blockWrite h, if_pos hb, spbTurn_eq_exec hq fun _ => hb]

theorem blockWriteTurn_of_ok {i : Instr} (h : decodeBlock b.toList = .ok i) :
    blockWriteTurn b s = exec i s := by
  simp only [blockWriteTurn, h]

theorem blockWriteTurn_of_error {x : DecodeError} (h : decodeBlock b.toList = .error x) :
    blockWriteTurn b s = .next (memWrite b s) := by
  simp only [blockWriteTurn, h]

end

/-! ### The statements -/

/-- Settles O12: with busy = 0 the move is the block write, whose bytes decode; with busy = 1 the
controller holds. -/
theorem stepRunsTheBlockWrite : Obligations.StepRunsTheBlockWrite := by
  unfold Obligations.StepRunsTheBlockWrite
  intro s b rest i hin hdec
  constructor
  · intro hb
    rw [step_of_blockWrite_free hin hb, blockWriteTurn_of_ok hdec, withInputs]
  · exact step_of_blockWrite_held hin

/-- Settles O52: SET_RUNTIME_BLOCK is `memWrite` of the bytes of R76, for either answer of the Bus. -/
theorem blockWriteCompletesOrFails : Obligations.BlockWriteCompletesOrFails := by
  unfold Obligations.BlockWriteCompletesOrFails
  intro s a p q
  have hexec : exec (.setRuntimeBlock a p q) s =
      .next (memWrite (blockOfList (blockBytes a p q)) s) := rfl
  rw [hexec]
  constructor
  · intro hok
    exact ⟨blockOfList (blockBytes a p q), toList_blockOfList rfl, by rw [memWrite_of_ok hok]⟩
  · intro herr
    exact ⟨writeAnswer_devBlock s, by rw [memWrite_of_busError herr]⟩

/-- Settles O59: bytes that do not decode are `memWrite` with the write taken off the list, and the Bus
answers as it would with the write still listed. -/
theorem otherBlockWrites : Obligations.OtherBlockWrites := by
  unfold Obligations.OtherBlockWrites
  intro s b rest x hin hdec
  have hanswer := writeAnswer_withInputs rest s
  have hfree (hb : s.busy = false) : step s = .next (memWrite b (withInputs rest s)) := by
    rw [step_of_blockWrite_free hin hb, blockWriteTurn_of_error hdec]
  refine ⟨fun hb hok => ?_, fun hb herr => ⟨writeAnswer_devBlock s, ?_⟩,
    step_of_blockWrite_held hin⟩
  · rw [hfree hb, memWrite_of_ok (by rw [hanswer]; exact hok), hanswer]
    rfl
  · rw [hfree hb, memWrite_of_busError (by rw [hanswer]; exact herr), hanswer]
    rfl

end Sys2Proof.Machine

/-! The encodings (R60 to R64, R72, R73, R76, R80, R81): a command word against its fields, and each
form of a frame and the command block read back from what the encoder writes. Then the dispatch of each
command row (R82), the operands of the assembler (R83), and when EVENC emits each record (R172 to R178). -/

namespace Sys2Proof.Machine

/-! ### The fields of a command word -/

/-- A concatenation as a number: the left part weighs `2 ^ m`. -/
theorem toNat_append_eq_add {n m : Nat} (x : BitVec n) (y : BitVec m) :
    (x ++ y).toNat = x.toNat * 2 ^ m + y.toNat := by
  rw [BitVec.toNat_append, ← Nat.shiftLeft_add_eq_or_of_lt y.isLt, Nat.shiftLeft_eq]

/-- A word from all five fields of R80, the must-be-0 ones too. -/
def wordOfFields (zero1 maxt exp : Byte) (zero0 op : BitVec 4) : Word :=
  zero1 ++ maxt ++ exp ++ zero0 ++ op

theorem commandWord_eq_wordOfFields (op : BitVec 4) (exp maxt : Byte) :
    commandWord op exp maxt = wordOfFields 0 maxt exp 0 op := rfl

theorem toNat_wordOfFields (zero1 maxt exp : Byte) (zero0 op : BitVec 4) :
    (wordOfFields zero1 maxt exp zero0 op).toNat =
      zero1.toNat * 16777216 + maxt.toNat * 65536 + exp.toNat * 256 + zero0.toNat * 16 +
        op.toNat := by
  have h : (zero1 ++ maxt ++ exp ++ zero0 ++ op).toNat = zero1.toNat * 16777216 +
      maxt.toNat * 65536 + exp.toNat * 256 + zero0.toNat * 16 + op.toNat := by
    simp only [toNat_append_eq_add]
    omega
  exact h

/-- A word is given by its five fields (R80). -/
theorem eq_wordOfFields_iff (w : Word) (zero1 maxt exp : Byte) (zero0 op : BitVec 4) :
    w = wordOfFields zero1 maxt exp zero0 op ↔
      cmdZero1 w = zero1 ∧ cmdMaxt w = maxt ∧ cmdExp w = exp ∧ cmdZero0 w = zero0 ∧
        cmdOp w = op := by
  have hw := w.isLt
  simp only [← BitVec.toNat_inj, toNat_wordOfFields, cmdZero1, cmdMaxt, cmdExp, cmdZero0, cmdOp,
    BitVec.extractLsb'_toNat, Nat.shiftRight_eq_div_pow]
  omega

/-- The mask of the AWAIT_STATUS row keeps OP and the must-be-0 fields. -/
theorem wordOfFields_and_mask (zero1 maxt exp : Byte) (zero0 op : BitVec 4) :
    wordOfFields zero1 maxt exp zero0 op &&& 0xFF0000FF#32 = wordOfFields zero1 0 0 zero0 op := by
  have h : (zero1 ++ maxt ++ exp ++ zero0 ++ op) &&& (0xFF#8 ++ 0#8 ++ 0#8 ++ 0xF#4 ++ 0xF#4) =
      zero1 ++ 0#8 ++ 0#8 ++ zero0 ++ op := by
    rw [BitVec.and_append, BitVec.and_append, BitVec.and_append, BitVec.and_append]
    simp only [BitVec.and_zero, BitVec.and_allOnes, show 0xFF#8 = BitVec.allOnes 8 from rfl,
      show 0xF#4 = BitVec.allOnes 4 from rfl]
  exact h

theorem eq_commandWord_iff (w : Word) (op : BitVec 4) (exp maxt : Byte) :
    w = commandWord op exp maxt ↔
      cmdZero1 w = 0 ∧ cmdMaxt w = maxt ∧ cmdExp w = exp ∧ cmdZero0 w = 0 ∧ cmdOp w = op := by
  rw [commandWord_eq_wordOfFields, eq_wordOfFields_iff]

theorem wordOfFields_inj {zero1 zero1' maxt maxt' exp exp' : Byte} {zero0 zero0' op op' : BitVec 4} :
    wordOfFields zero1 maxt exp zero0 op = wordOfFields zero1' maxt' exp' zero0' op' ↔
      zero1 = zero1' ∧ maxt = maxt' ∧ exp = exp' ∧ zero0 = zero0' ∧ op = op' := by
  obtain ⟨hz1, hm, he, hz0, hop⟩ := (eq_wordOfFields_iff _ zero1 maxt exp zero0 op).mp rfl
  rw [eq_wordOfFields_iff, hz1, hm, he, hz0, hop]

/-- R81: the match and mask of the AWAIT_STATUS row. -/
theorem and_mask_eq_iff (w : Word) :
    w &&& 0xFF0000FF = 0x00000002 ↔ w = commandWord 2 (cmdExp w) (cmdMaxt w) := by
  have hfields := (eq_wordOfFields_iff w _ _ _ _ _).mpr ⟨rfl, rfl, rfl, rfl, rfl⟩
  have hmasked : w &&& 0xFF0000FF = wordOfFields (cmdZero1 w) 0 0 (cmdZero0 w) (cmdOp w) :=
    (congrArg (· &&& 0xFF0000FF#32) hfields).trans (wordOfFields_and_mask _ _ _ _ _)
  have hrow : (0x00000002 : Word) = wordOfFields 0 0 0 0 2 := rfl
  rw [hmasked, hrow, wordOfFields_inj, eq_commandWord_iff]
  simp

/-! ### Command words -/

/-- Encoding takes a decoded command word back to the word. -/
theorem encode_decodeCommand (w : Word) : encode (decodeCommand w) = .command w := by
  unfold decodeCommand
  split
  · rfl
  next hzero =>
    obtain ⟨hz0, hz1⟩ : cmdZero0 w = 0 ∧ cmdZero1 w = 0 := by simpa using hzero
    have hword {op exp maxt} (hop : cmdOp w = op) (he : cmdExp w = exp) (hm : cmdMaxt w = maxt) :
        Image.command (commandWord op exp maxt) = .command w :=
      congrArg _ ((eq_commandWord_iff w op exp maxt).mpr ⟨hz1, hm, he, hz0, hop⟩).symm
    split
    next hop => exact hword hop rfl rfl
    split
    · rfl
    next hargs =>
      obtain ⟨he, hm⟩ : cmdExp w = 0 ∧ cmdMaxt w = 0 := by simpa using hargs
      split
      next hop => exact hword hop he hm
      split
      next hop => exact hword hop he hm
      split
      next hop => exact hword hop he hm
      · rfl

theorem decodeCommand_awaitWord (exp maxt : Byte) :
    decodeCommand (commandWord 2 exp maxt) = .awaitStatus exp maxt := by
  obtain ⟨hz1, hm, he, hz0, hop⟩ := (eq_commandWord_iff _ 2 exp maxt).mp rfl
  rw [decodeCommand, hz1, hm, he, hz0, hop]
  rfl

/-- An instruction that decodes from its own word v decodes from no other word. -/
theorem decodeCommand_eq_iff {i : Instr} {v : Word} (henc : encode i = .command v)
    (hdec : decodeCommand v = i) (w : Word) : decodeCommand w = i ↔ w = v := by
  constructor
  · intro h
    have hw := encode_decodeCommand w
    rw [h, henc] at hw
    exact (Image.command.inj hw).symm
  · rintro rfl
    exact hdec

theorem decodeCommand_eq_tryReadFrame_iff (w : Word) :
    decodeCommand w = .tryReadFrame ↔ w = commandWord 1 0 0 :=
  decodeCommand_eq_iff rfl (by decide) w

theorem decodeCommand_eq_awaitStatus_iff (w : Word) (exp maxt : Byte) :
    decodeCommand w = .awaitStatus exp maxt ↔ w = commandWord 2 exp maxt :=
  decodeCommand_eq_iff rfl (decodeCommand_awaitWord exp maxt) w

theorem decodeCommand_eq_decode_iff (w : Word) :
    decodeCommand w = .decode ↔ w = commandWord 3 0 0 :=
  decodeCommand_eq_iff rfl (by decide) w

theorem decodeCommand_eq_pollOnce_iff (w : Word) :
    decodeCommand w = .pollOnce ↔ w = commandWord 4 0 0 :=
  decodeCommand_eq_iff rfl (by decide) w

/-- R81: the legal words are those of the four rows. -/
theorem decodeCommand_legal_iff (w : Word) :
    decodeCommand w ≠ .illegalCommand w ↔
      w = commandWord 1 0 0 ∨ w = commandWord 2 (cmdExp w) (cmdMaxt w) ∨
        w = commandWord 3 0 0 ∨ w = commandWord 4 0 0 := by
  rw [← decodeCommand_eq_tryReadFrame_iff, ← decodeCommand_eq_awaitStatus_iff,
    ← decodeCommand_eq_decode_iff, ← decodeCommand_eq_pollOnce_iff]
  constructor
  · exact (decodeCommand_cases w).resolve_left
  · rintro (h | h | h | h) <;> simp [h]

/-- R81: the legal words are those that the table's match and mask give a row. -/
theorem commandRowMatches_iff (w : Word) :
    commandRowMatches w = true ↔ decodeCommand w ≠ .illegalCommand w := by
  have h1 : commandWord 1 0 0 = 0x00000001 := rfl
  have h3 : commandWord 3 0 0 = 0x00000003 := rfl
  have h4 : commandWord 4 0 0 = 0x00000004 := rfl
  rw [decodeCommand_legal_iff, ← and_mask_eq_iff, h1, h3, h4]
  simp [commandRowMatches, or_assoc]

theorem wellFormed_illegalCommand_iff (w : Word) :
    (Instr.illegalCommand w).wellFormed = true ↔ decodeCommand w = .illegalCommand w := by
  have h : (Instr.illegalCommand w).wellFormed = !commandRowMatches w := rfl
  rw [h, Bool.not_eq_true', ← Bool.not_eq_true, commandRowMatches_iff, not_not]

theorem decodeCommand_wellFormed (w : Word) : (decodeCommand w).wellFormed = true := by
  rcases decodeCommand_cases w with h | h | h | h | h <;> rw [h]
  · exact (wellFormed_illegalCommand_iff w).mpr h
  · rfl
  · rfl
  · rfl
  · rfl

/-- R81: the illegal words, by their fields. -/
theorem decodeCommand_illegal_iff_fields (w : Word) :
    decodeCommand w = .illegalCommand w ↔
      (cmdOp w = 0 ∨ 5 ≤ (cmdOp w).toNat) ∨ cmdZero0 w ≠ 0 ∨ cmdZero1 w ≠ 0 ∨
        (cmdOp w ≠ 2 ∧ (cmdExp w ≠ 0 ∨ cmdMaxt w ≠ 0)) := by
  have hop : ∀ op : BitVec 4, (op = 0 ∨ 5 ≤ op.toNat) ↔ op ≠ 1 ∧ op ≠ 2 ∧ op ≠ 3 ∧ op ≠ 4 := by
    decide
  rw [hop]
  unfold decodeCommand
  split
  next hzero => exact iff_of_true rfl (.inr (hzero.imp_right .inl))
  next hzero =>
    obtain ⟨hz0, hz1⟩ : cmdZero0 w = 0 ∧ cmdZero1 w = 0 := by simpa using hzero
    split
    next h2 => simp [hz0, hz1, h2]
    next h2 =>
      split
      next hargs => exact iff_of_true rfl (.inr (.inr (.inr ⟨h2, hargs⟩)))
      next hargs =>
        obtain ⟨he, hm⟩ : cmdExp w = 0 ∧ cmdMaxt w = 0 := by simpa using hargs
        split
        next h1 => simp [hz0, hz1, he, hm, h1]
        next h1 =>
          split
          next h3 => simp [hz0, hz1, he, hm, h3]
          next h3 =>
            split
            next h4 => simp [hz0, hz1, he, hm, h4]
            next h4 => exact iff_of_true rfl (.inl ⟨h1, h2, h3, h4⟩)

/-! ### Frames and blocks -/

/-- R41: a 16-bit field is its two bytes. -/
theorem le16_lo8_hi8 (v : BitVec 16) : le16 (lo8 v) (hi8 v) = v := by
  have h : (hi8 v ++ lo8 v).toNat = v.toNat := by
    simp only [toNat_append_eq_add, lo8, hi8, BitVec.extractLsb'_toNat, Nat.shiftRight_eq_div_pow]
    omega
  exact BitVec.eq_of_toNat_eq h

/-- R42: a 32-bit field is its four bytes. -/
theorem le32_bytes (v : BitVec 32) :
    le32 (v.extractLsb' 0 8) (v.extractLsb' 8 8) (v.extractLsb' 16 8) (v.extractLsb' 24 8) = v := by
  have h : (v.extractLsb' 24 8 ++ v.extractLsb' 16 8 ++ v.extractLsb' 8 8 ++
      v.extractLsb' 0 8).toNat = v.toNat := by
    simp only [toNat_append_eq_add, BitVec.extractLsb'_toNat, Nat.shiftRight_eq_div_pow]
    omega
  exact BitVec.eq_of_toNat_eq h

theorem decodeFrame_short {b : List Byte} (h : b.length < 4) :
    decodeFrame b = .ok (.frameShort (BitVec.ofNat 4 b.length)) := by
  rw [decodeFrame, if_neg (by omega), if_pos h]

/-- R60, R141: a frame from its identifier and its payload. -/
theorem decodeFrame_header (identifier : Byte) {payload : List Byte} (h : payload.length ≤ 28) :
    decodeFrame (frameHeader identifier ++ payload) =
      if identifier = idSensorData then
        if payload.length < 22 then .error .shortSensor
        else .ok (.frameSensorData (sensorFields (frameHeader identifier ++ payload)))
      else if identifier = idSystemStatus then .ok (.frameSystemStatus payload[0]?)
      else if identifier = idFirmwareVersion then .ok (.frameFirmwareVersion (payload.drop 8))
      else if identifier = idRequestMsg then .ok .frameRequestMsg
      else .ok (.frameUnknown identifier) := by
  have hlen : (frameHeader identifier ++ payload).length = payload.length + 4 := by
    simp [frameHeader]
  have hid : byteAt (frameHeader identifier ++ payload) 3 = identifier := rfl
  have hshort : payload.length + 4 < 26 ↔ payload.length < 22 := by omega
  rw [decodeFrame, hid, hlen, if_neg (by omega), if_neg (by omega)]
  simp only [hshort]
  rfl

theorem setWidth_extractLsb'_touch (t : BitVec 15) : (t.setWidth 16).extractLsb' 0 15 = t := by
  apply BitVec.eq_of_toNat_eq
  rw [BitVec.extractLsb'_toNat, BitVec.toNat_setWidth]
  have := t.isLt
  omega

/-- R64: each field is read at the offset it is written to. -/
theorem sensorFields_sensorPayload (f : SensorFields) :
    sensorFields (frameHeader idSensorData ++ sensorPayload f) = f := by
  have hfields : sensorFields (frameHeader idSensorData ++ sensorPayload f) =
      { configmask := le16 (lo8 f.configmask) (hi8 f.configmask)
        sysinfo := f.sysinfo
        gesture := f.gesture
        touch := (le16 (lo8 (f.touch.setWidth 16)) (hi8 (f.touch.setWidth 16))).extractLsb' 0 15
        airwheel := f.airwheel
        x := le16 (lo8 f.x) (hi8 f.x)
        y := le16 (lo8 f.y) (hi8 f.y)
        z := le16 (lo8 f.z) (hi8 f.z) } := rfl
  rw [hfields]
  simp only [le16_lo8_hi8, setWidth_extractLsb'_touch]

/-- R76: the bytes of a SET_RUNTIME block, read back. -/
theorem decodeBlock_blockBytes (a : Byte) (p q : BitVec 32) :
    decodeBlock (blockBytes a p q) = .ok (.setRuntimeBlock a p q) := by
  have hp : field32 (blockBytes a p q) 7 = p := le32_bytes p
  have hq : field32 (blockBytes a p q) 11 = q := le32_bytes q
  have hpad : blockZeroOffsets.all (fun i => byteAt (blockBytes a p q) i == 0) = true := rfl
  have ha : byteAt (blockBytes a p q) 3 = a := rfl
  have hlen : ¬ (blockBytes a p q).length ≠ 15 := by simp [blockBytes, bytes32]
  have hid : ¬ byteAt (blockBytes a p q) 2 ≠ idSetRuntime := not_not_intro rfl
  rw [decodeBlock, if_neg hlen, if_neg hid, if_pos hpad, ha, hp, hq]

/-! ### Each form of a frame, read back -/

theorem decode_encode_frameShort {len : BitVec 4} (h : len.toNat < 4) :
    decode (encode (.frameShort len)) = .ok (.frameShort len) := by
  have hlen : (zeros len.toNat).length = len.toNat := List.length_replicate
  show decodeFrame (zeros len.toNat) = _
  rw [decodeFrame_short (by omega), hlen, BitVec.ofNat_toNat, BitVec.setWidth_eq]

theorem decode_encode_frameSystemStatus (commandId : Option Byte) :
    decode (encode (.frameSystemStatus commandId)) = .ok (.frameSystemStatus commandId) := by
  cases commandId with
  | none => exact decodeFrame_header idSystemStatus (payload := []) (by decide)
  | some c => exact decodeFrame_header idSystemStatus (payload := c :: zeros 27) (by simp [zeros])

theorem decode_encode_frameFirmwareVersion {text : List Byte} (h : text.length ≤ 20) :
    decode (encode (.frameFirmwareVersion text)) = .ok (.frameFirmwareVersion text) := by
  have hlen : (zeros 8 ++ text).length ≤ 28 := by simp [zeros]; omega
  exact decodeFrame_header idFirmwareVersion hlen

theorem decode_encode_frameSensorData (f : SensorFields) :
    decode (encode (.frameSensorData f)) = .ok (.frameSensorData f) := by
  have hlen : (sensorPayload f).length = 28 := by simp [sensorPayload, zeros]
  show decodeFrame (frameHeader idSensorData ++ sensorPayload f) = _
  rw [decodeFrame_header idSensorData hlen.le, if_pos rfl, hlen, if_neg (by decide),
    sensorFields_sensorPayload]

theorem decode_encode_frameUnknown {identifier : Byte}
    (h : (Instr.frameUnknown identifier).wellFormed = true) :
    decode (encode (.frameUnknown identifier)) = .ok (.frameUnknown identifier) := by
  have hrows : identifier ∉ [idSystemStatus, idFirmwareVersion, idSensorData, idRequestMsg] := by
    intro hmem
    have hnamed : namedIdentifiers.contains identifier = true := List.elem_eq_true_of_mem hmem
    rw [Instr.wellFormed, hnamed] at h
    cases h
  simp only [List.mem_cons, List.not_mem_nil, or_false, not_or] at hrows
  obtain ⟨hstatus, hfirmware, hsensor, hrequest⟩ := hrows
  show decodeFrame (frameHeader identifier ++ zeros 28) = _
  rw [decodeFrame_header identifier (by simp [zeros]), if_neg hsensor, if_neg hstatus,
    if_neg hfirmware, if_neg hrequest]

/-- The block of a configuration step: R76's bytes with the step's two arguments. -/
theorem encode_configBlock (a : Byte) (x : BitVec 32) (k : ConfigStep) :
    encode (configBlock a x k) = .block ([0, 0, 0xA2, a, 0, 0, 0] ++
      bytes32 (configArgs x k).1 ++ bytes32 (configArgs x k).2) := rfl

/-! ### Dispatch -/

/-- R21: setting a bit of FAULT is an OR with it. -/
theorem setFaultBit_eq_or (f : ModelFault) (w : Word) :
    setFaultBit f w = w ||| (1#32 <<< f.bit) := by
  apply BitVec.eq_of_getLsbD_eq
  intro i hi
  have hone : (1#32 <<< f.bit).getLsbD i = decide (i = f.bit) := by
    rw [BitVec.getLsbD_shiftLeft, BitVec.getLsbD_one]
    grind
  rw [getLsbD_setFaultBit, BitVec.getLsbD_or, hone, Bool.or_comm]

/-- R214: a model fault sets its own bit of FAULT. -/
theorem raiseFault_eq_faulted (f : ModelFault) (s : State) : raiseFault f s = faulted f.bit s := by
  rw [raiseFault, faulted, setFaultBit_eq_or]

section
variable {s : State}

theorem exec_tryReadFrame_of_idle (hs : s.seq = .idle) :
    exec .tryReadFrame s = .next (dispatchTo .tReady s) := by
  simp only [exec, execTryReadFrame, hs]

theorem exec_awaitStatus_of_idle (hs : s.seq = .idle) (exp maxt : Byte) :
    exec (.awaitStatus exp maxt) s = .next (dispatchTo .pStart s) := by
  simp only [exec, execAwaitStatus, hs]

theorem exec_decode_of_idle (hs : s.seq = .idle) :
    exec .decode s = .next (dispatchTo .dDecode s) := by
  simp only [exec, execDecode, hs]

theorem exec_pollOnce_of_idle (hs : s.seq = .idle) :
    exec .pollOnce s = .next (dispatchTo .tReady s) := by
  simp only [exec, execPollOnce, hs]

theorem exec_illegalCommand_of_idle (hs : s.seq = .idle) (w : Word) :
    exec (.illegalCommand w) s = .next (raiseFault .illegalCommand s) := by
  simp only [exec, execIllegalCommand, hs]

end

/-! ### The assembler -/

theorem parseOperand_of_lt {cs : List Char} {n : Nat} (h : parseNumber cs = some n) (hn : n < 256) :
    parseOperand cs = .ok (BitVec.ofNat 8 n) := by
  simp only [parseOperand, h, if_pos hn]

theorem parseOperand_of_ge {cs : List Char} {n : Nat} (h : parseNumber cs = some n)
    (hn : 256 ≤ n) : parseOperand cs = .error .operandRange := by
  simp only [parseOperand, h, if_neg (Nat.not_lt.mpr hn)]

theorem assembleAwait_pair_ok {e m : List Char} {exp maxt : Byte} (he : parseOperand e = .ok exp)
    (hm : parseOperand m = .ok maxt) : assembleAwait [e, m] = .ok (.awaitStatus exp maxt) := by
  simp only [assembleAwait, he, hm]

theorem assembleAwait_pair_error_left {e m : List Char} {x : AsmError}
    (he : parseOperand e = .error x) : assembleAwait [e, m] = .error x := by
  simp only [assembleAwait, he]

theorem assembleAwait_pair_error_right {e m : List Char} {exp : Byte} {x : AsmError}
    (he : parseOperand e = .ok exp) (hm : parseOperand m = .error x) :
    assembleAwait [e, m] = .error x := by
  simp only [assembleAwait, he, hm]

/-- R83: one operand alone takes the default budget. -/
theorem assembleAwait_default (e : List Char) : assembleAwait [e] = assembleAwait [e, ['1', '0']] := by
  have hten : parseOperand ['1', '0'] = .ok (BitVec.ofNat 8 Config.maxTriesDefault) := by decide
  cases he : parseOperand e with
  | ok exp => simp only [assembleAwait, he, hten]
  | error x => simp only [assembleAwait, he]

/-! ### The records of a sensor-data frame -/

theorem mem_posRecords {t : TieMode} {f : SensorFields} {e : Event} (h : e ∈ posRecords t f) :
    ∃ x y z xn yn zn, e = .position x y z xn yn zn := by
  unfold posRecords at h
  split at h
  · exact ⟨_, _, _, _, _, _, List.mem_singleton.mp h⟩
  · cases h

theorem mem_gesRecords {p : GestureUnmapped} {f : SensorFields} {e : Event}
    (h : e ∈ gesRecords p f) : ∃ c t, e = .gesture c t := by
  unfold gesRecords at h
  split at h
  · split at h
    · exact ⟨_, _, List.mem_singleton.mp h⟩
    · cases p with
      | drop => cases h
      | emitUnmapped => exact ⟨_, _, List.mem_singleton.mp h⟩
  · cases h

theorem mem_tchRecords {f : SensorFields} {e : Event} (h : e ∈ tchRecords f) :
    ∃ b k q, e = .touch b k q := by
  unfold tchRecords at h
  split at h
  · split at h
    · exact ⟨_, _, _, List.mem_singleton.mp h⟩
    · cases h
  · cases h

theorem mem_awlRecords {f : SensorFields} {e : Event} (h : e ∈ awlRecords f) :
    ∃ r, e = .airwheel r := by
  unfold awlRecords at h
  split at h
  · exact ⟨_, List.mem_singleton.mp h⟩
  · cases h

/-- R172: when there is a POSITION record. -/
theorem posRecords_length_eq_one_iff (t : TieMode) (f : SensorFields) :
    (posRecords t f).length = 1 ↔ f.configmask.getLsbD 4 = true ∧ f.sysinfo.getLsbD 0 = true := by
  simp [posRecords, apply_ite List.length]

/-- R178: when there is an AIRWHEEL record. -/
theorem awlRecords_length_eq_one_iff (f : SensorFields) :
    (awlRecords f).length = 1 ↔ f.configmask.getLsbD 3 = true ∧ f.sysinfo.getLsbD 1 = true := by
  simp [awlRecords, apply_ite List.length]

/-- The class ids without a tag are 0 and those from 8 (R67, R174). -/
theorem gestureTag_eq_none_iff (g : Byte) : gestureTag g = none ↔ g = 0 ∨ ¬ g.toNat ≤ 7 := by
  revert g
  decide

theorem unmappedGesture_length_eq_one_iff (p : GestureUnmapped) (g : Byte) :
    (unmappedGesture p g).length = 1 ↔ p = .emitUnmapped := by
  cases p <;> simp [unmappedGesture]

/-- R174, R175: when there is a GESTURE record. -/
theorem gesRecords_length_eq_one_iff (p : GestureUnmapped) (f : SensorFields) :
    (gesRecords p f).length = 1 ↔
      f.configmask.getLsbD 1 = true ∧ f.gesture ≠ 0 ∧
        (f.gesture.toNat ≤ 7 ∨ p = .emitUnmapped) := by
  have htag := gestureTag_eq_none_iff f.gesture
  unfold gesRecords
  split
  next hgate =>
    obtain ⟨hcm, hg⟩ : f.configmask.getLsbD 1 = true ∧ f.gesture ≠ 0 := by simpa using hgate
    split
    next tag hsome =>
      have hle : f.gesture.toNat ≤ 7 := by
        by_contra hgt
        rw [htag.mpr (.inr hgt)] at hsome
        cases hsome
      exact iff_of_true rfl ⟨hcm, hg, .inl hle⟩
    next hnone =>
      have hgt : ¬ f.gesture.toNat ≤ 7 := (htag.mp hnone).resolve_left hg
      rw [unmappedGesture_length_eq_one_iff]
      exact ⟨fun hp => ⟨hcm, hg, .inr hp⟩, fun ⟨_, _, h⟩ => h.resolve_left hgt⟩
  next hgate =>
    have hshut : ¬ (f.configmask.getLsbD 1 = true ∧ f.gesture ≠ 0) := by simpa using hgate
    exact iff_of_false Nat.zero_ne_one fun ⟨hcm, hg, _⟩ => hshut ⟨hcm, hg⟩

theorem highestSetBelow_eq_none_iff (a : BitVec 15) (n : Nat) :
    highestSetBelow a n = none ↔ ∀ i < n, a.getLsbD i = false := by
  induction n with
  | zero => simp [highestSetBelow]
  | succ n ih =>
    rw [highestSetBelow, Nat.forall_lt_succ_right]
    cases a.getLsbD n <;> simp [ih]

theorem highestSet_eq_none_iff (a : BitVec 15) : highestSet a = none ↔ a = 0 := by
  rw [highestSet, highestSetBelow_eq_none_iff]
  constructor
  · intro h
    exact BitVec.eq_of_getLsbD_eq fun i hi => by simpa using h i hi
  · rintro rfl
    simp

/-- R176, R177: when there is a TOUCH record. -/
theorem tchRecords_length_eq_one_iff (f : SensorFields) :
    (tchRecords f).length = 1 ↔ f.configmask.getLsbD 2 = true ∧ f.touch ≠ 0 := by
  rw [ne_eq, ← highestSet_eq_none_iff]
  unfold tchRecords
  split
  next hcm =>
    cases highestSet f.touch with
    | none => exact iff_of_false Nat.zero_ne_one fun ⟨_, hne⟩ => hne rfl
    | some i => exact iff_of_true rfl ⟨hcm, nofun⟩
  next hcm => exact iff_of_false Nat.zero_ne_one fun ⟨h, _⟩ => hcm h

/-! ### The bits no rule reads -/

/-- R74, R179: the records of a sensor-data frame depend on the named bits only. -/
theorem encSensor_congr (p : Params) {f g : SensorFields}
    (hcm : ∀ j, 1 ≤ j → j ≤ 4 → f.configmask.getLsbD j = g.configmask.getLsbD j)
    (hsi : ∀ j, j ≤ 1 → f.sysinfo.getLsbD j = g.sysinfo.getLsbD j)
    (hges : f.gesture = g.gesture) (htch : f.touch = g.touch) (hawl : f.airwheel = g.airwheel)
    (hx : f.x = g.x) (hy : f.y = g.y) (hz : f.z = g.z) : encSensor p f = encSensor p g := by
  simp only [encSensor, posRecords, gesRecords, tchRecords, awlRecords, hges, htch, hawl, hx, hy, hz,
    hcm 1 (by decide) (by decide), hcm 2 (by decide) (by decide), hcm 3 (by decide) (by decide),
    hcm 4 (by decide) (by decide), hsi 0 (by decide), hsi 1 (by decide)]

theorem byteAt_toList (a : Window) {i : Nat} (hi : i < 32) : byteAt a.toList i = a[i] := by
  simp [byteAt, hi]

/-- R143: what `Dec` returns for a window of sensor data. -/
theorem dec_window_sensorData (p : Params) {a : Window} (h : a[3] = idSensorData) :
    dec p a.toList = .decoded .decSensor (encSensor p (sensorFields a.toList)) := by
  have hlen : a.toList.length = 32 := by simp
  rw [dec, hlen, byteAt_toList a (by decide), if_neg (by decide), if_pos h, if_neg (by decide)]
  rfl

theorem getLsbD_le16 (lo hi : Byte) (j : Nat) :
    (le16 lo hi).getLsbD j = if j < 8 then lo.getLsbD j else hi.getLsbD (j - 8) :=
  BitVec.getLsbD_append

/-- R64, R70: the fields of a frame window, by its bytes. -/
theorem sensorFields_toList (a : Window) : sensorFields a.toList =
    { configmask := le16 a[4] a[5]
      sysinfo := a[7]
      gesture := a[10]
      touch := (le16 a[14] a[15]).extractLsb' 0 15
      airwheel := a[18]
      x := le16 a[20] a[21]
      y := le16 a[22] a[23]
      z := le16 a[24] a[25] } := by
  simp [sensorFields, field16, byteAt_toList]

/-- R68: bit 15 of the action field is not read. -/
theorem touchField_congr {lo hi hi' : Byte} (h : ∀ j, j ≤ 6 → hi.getLsbD j = hi'.getLsbD j) :
    (le16 lo hi).extractLsb' 0 15 = (le16 lo hi').extractLsb' 0 15 := by
  apply BitVec.eq_of_getLsbD_eq
  intro j hj
  rw [BitVec.getLsbD_extractLsb', BitVec.getLsbD_extractLsb', getLsbD_le16, getLsbD_le16,
    h (0 + j - 8) (by omega)]

/-! ### The statements -/

/-- Settles O6, by the form of the instruction: a command word by its fields, a frame from its header
and payload, a block from its bytes. -/
theorem decodeAfterEncode : Obligations.DecodeAfterEncode := by
  unfold Obligations.DecodeAfterEncode
  intro i h
  cases i with
  | tryReadFrame => rfl
  | awaitStatus exp maxt => exact congrArg _ (decodeCommand_awaitWord exp maxt)
  | decode => rfl
  | pollOnce => rfl
  | illegalCommand w => exact congrArg _ ((wellFormed_illegalCommand_iff w).mp h)
  | frameShort len => exact decode_encode_frameShort (of_decide_eq_true h)
  | frameSystemStatus commandId => exact decode_encode_frameSystemStatus commandId
  | frameFirmwareVersion text => exact decode_encode_frameFirmwareVersion (of_decide_eq_true h)
  | frameSensorData f => exact decode_encode_frameSensorData f
  | frameRequestMsg => exact decodeFrame_header idRequestMsg (payload := zeros 28) (by decide)
  | frameUnknown identifier => exact decode_encode_frameUnknown h
  | setRuntimeBlock a p q => exact decodeBlock_blockBytes a p q

/-- Settles O7, through the branches of `decodeCommand`; an illegal word is one that no row matches. -/
theorem encodeAfterDecodeCommand : Obligations.EncodeAfterDecodeCommand := by
  unfold Obligations.EncodeAfterDecodeCommand
  exact fun w => ⟨encode_decodeCommand w, decodeCommand_wellFormed w⟩

/-- Settles O8: each row is the word that its instruction encodes to, and the illegal words are read off
the branches of `decodeCommand`. -/
theorem illegalWordsAreTheRest : Obligations.IllegalWordsAreTheRest := by
  unfold Obligations.IllegalWordsAreTheRest
  intro w
  refine ⟨decodeCommand_illegal_iff_fields w, decodeCommand_eq_tryReadFrame_iff w, ?_,
    decodeCommand_eq_decode_iff w, decodeCommand_eq_pollOnce_iff w⟩
  intro exp maxt
  rw [decodeCommand_eq_awaitStatus_iff, and_mask_eq_iff]
  constructor
  · intro hw
    obtain ⟨-, hm, he, -, -⟩ := (eq_commandWord_iff w 2 exp maxt).mp hw
    exact ⟨by rw [he, hm]; exact hw, he.symm, hm.symm⟩
  · rintro ⟨hw, rfl, rfl⟩
    exact hw

/-- Settles O43: `Dec` of a window is EVENC on its fields, and EVENC reads the named bits only. -/
theorem decIgnoresUnnamedBits : Obligations.DecIgnoresUnnamedBits := by
  unfold Obligations.DecIgnoresUnnamedBits
  intro p a b ha hb hcm hsi h10 h14 h15 h18 h20 h21 h22 h23 h24 h25
  rw [dec_window_sensorData p ha, dec_window_sensorData p hb]
  congr 1
  rw [sensorFields_toList, sensorFields_toList, h10, h14, touchField_congr h15, h18, h20, h21, h22,
    h23, h24, h25]
  apply encSensor_congr
  case hcm =>
    intro j h1 h4
    have hlow : j < 8 := by omega
    rw [getLsbD_le16, getLsbD_le16, if_pos hlow, if_pos hlow, hcm j h1 h4]
  case hsi => exact hsi
  all_goals rfl

/-- Settles O44: each of the four lists has at most one record, and one exactly when its gate is open. -/
theorem atMostFourRecordsInOrder : Obligations.AtMostFourRecordsInOrder := by
  unfold Obligations.AtMostFourRecordsInOrder
  intro p f
  have hpos := posRecords_length p.tie f
  have hges := gesRecords_length p.unmapped f
  have htch := tchRecords_length f
  have hawl := awlRecords_length f
  constructor
  · exact ⟨_, _, _, _, rfl, hpos, hges, htch, hawl, fun _ => mem_posRecords,
      fun _ => mem_gesRecords, fun _ => mem_tchRecords, fun _ => mem_awlRecords⟩
  · have hall : (encSensor p f).length = 4 ↔ (posRecords p.tie f).length = 1 ∧
        (gesRecords p.unmapped f).length = 1 ∧ (tchRecords f).length = 1 ∧
        (awlRecords f).length = 1 := by
      simp only [encSensor, List.length_append]
      omega
    rw [hall, posRecords_length_eq_one_iff, gesRecords_length_eq_one_iff,
      tchRecords_length_eq_one_iff, awlRecords_length_eq_one_iff]
    constructor
    · rintro ⟨⟨h4, hs0⟩, ⟨h1, hg, hid⟩, ⟨h2, ht⟩, h3, hs1⟩
      refine ⟨fun j hj1 hj4 => ?_, hs0, hs1, hg, ht, hid⟩
      interval_cases j
      · exact h1
      · exact h2
      · exact h3
      · exact h4
    · rintro ⟨hcm, hs0, hs1, hg, ht, hid⟩
      exact ⟨⟨hcm 4 (by decide) (by decide), hs0⟩, ⟨hcm 1 (by decide) (by decide), hg, hid⟩,
        ⟨hcm 2 (by decide) (by decide), ht⟩, hcm 3 (by decide) (by decide), hs1⟩

/-- Settles O9: eight closed words. -/
theorem tableWordsDecode : Obligations.TableWordsDecode := by
  unfold Obligations.TableWordsDecode
  decide

/-- Settles O23: each row's dispatch is `dispatchTo` its first state, or the fault. -/
theorem dispatchStartsTheCommand : Obligations.DispatchStartsTheCommand := by
  unfold Obligations.DispatchStartsTheCommand
  intro s hs _
  refine ⟨⟨exec_tryReadFrame_of_idle hs, exec_awaitStatus_of_idle hs, exec_decode_of_idle hs,
    exec_pollOnce_of_idle hs⟩, fun w => ?_⟩
  rw [exec_illegalCommand_of_idle hs, raiseFault_eq_faulted]
  rfl

/-- Settles O48: a closed table. -/
theorem touchTable : Obligations.TouchTable := by
  unfold Obligations.TouchTable
  decide

/-- Settles O53: R76's bytes with the two arguments of each step. -/
theorem configurationBlocks : Obligations.ConfigurationBlocks := by
  unfold Obligations.ConfigurationBlocks
  intro a x
  have h00 : bytes32 0x00 = [0, 0, 0, 0] := by decide
  have h1F : bytes32 0x1F = [0x1F, 0, 0, 0] := by decide
  have h20 : bytes32 0x20 = [0x20, 0, 0, 0] := by decide
  have h7F : bytes32 0x7F = [0x7F, 0, 0, 0] := by decide
  simp only [encode_configBlock, configArgs, h00, h1F, h20, h7F]
  exact ⟨rfl, rfl, rfl, rfl, rfl⟩

/-- Settles O55: the one-operand form is the two-operand form with the operand 10. -/
theorem assemblerDefaultAndRange : Obligations.AssemblerDefaultAndRange := by
  unfold Obligations.AssemblerDefaultAndRange
  intro e
  have hten : parseOperand ['1', '0'] = .ok 10 := by decide
  refine ⟨assembleAwait_default e, fun n he => ⟨fun hn => ?_, fun hn => ?_⟩⟩
  · have hexp := parseOperand_of_lt he hn
    refine ⟨?_, fun m k hm => ⟨fun hk => ?_, fun hk => ?_⟩⟩
    · rw [assembleAwait_default, assembleAwait_pair_ok hexp hten]
    · exact assembleAwait_pair_ok hexp (parseOperand_of_lt hm hk)
    · exact assembleAwait_pair_error_right hexp (parseOperand_of_ge hm hk)
  · have hexp := parseOperand_of_ge he hn
    refine ⟨?_, fun m => assembleAwait_pair_error_left hexp⟩
    rw [assembleAwait_default, assembleAwait_pair_error_left hexp]

end Sys2Proof.Machine

/-! TSEQ (R100 to R107): a STATUS word from its fields, the step each transport command takes in a TSEQ
state, the exits of R106, and the steps put together into the whole of TRY_READ_FRAME. -/

namespace Sys2Proof.Machine

/-! ### A STATUS word is its fields -/

theorem getLsbD_of_getBits_eq {v w : Word} {lo n : Nat} (h : getBits v lo n = getBits w lo n) {i : Nat}
    (hlo : lo ≤ i) (hi : i < lo + n) : v.getLsbD i = w.getLsbD i := by
  have hbit := congrArg (fun x : BitVec n => x.getLsbD (i - lo)) h
  simpa [getBits, BitVec.getLsbD_extractLsb', Nat.add_sub_cancel' hlo, show i - lo < n by omega]
    using hbit

theorem xfer_ofCode_injective : ∀ c d : BitVec 2, Xfer.ofCode c = Xfer.ofCode d → c = d := by decide

theorem beq_one_injective : ∀ c d : BitVec 1, (c == 1#1) = (d == 1#1) → c = d := by decide

/-- R20: every bit of STATUS is reserved or in one of the six fields. -/
theorem status_bit_cases : ∀ i < 32, statusReserved.getLsbD i = true ∨ (0 ≤ i ∧ i < 0 + 4) ∨
    (4 ≤ i ∧ i < 4 + 2) ∨ (8 ≤ i ∧ i < 8 + 3) ∨ (16 ≤ i ∧ i < 16 + 8) ∨ (24 ≤ i ∧ i < 24 + 1) ∨
    (31 ≤ i ∧ i < 31 + 1) := by decide

/-- R20: two STATUS words with the same fields and the same reserved bits are the same word. -/
theorem status_ext {v w : Word} (hreserved : v &&& statusReserved = w &&& statusReserved)
    (hres : statusRes v = statusRes w) (hxfer : statusXfer v = statusXfer w)
    (hevcnt : statusEvcnt v = statusEvcnt w) (htries : statusTries v = statusTries w)
    (hfv : statusFv v = statusFv w) (hhalt : statusHalt v = statusHalt w) : v = w := by
  apply BitVec.eq_of_getLsbD_eq
  intro i hi
  rcases status_bit_cases i hi with h | ⟨h, h'⟩ | ⟨h, h'⟩ | ⟨h, h'⟩ | ⟨h, h'⟩ | ⟨h, h'⟩ | ⟨h, h'⟩
  · have hbit := congrArg (fun x : Word => x.getLsbD i) hreserved
    simpa [h] using hbit
  · exact getLsbD_of_getBits_eq hres h h'
  · exact getLsbD_of_getBits_eq (xfer_ofCode_injective _ _ hxfer) h h'
  · exact getLsbD_of_getBits_eq hevcnt h h'
  · exact getLsbD_of_getBits_eq htries h h'
  · exact getLsbD_of_getBits_eq (beq_one_injective _ _ hfv) h h'
  · exact getLsbD_of_getBits_eq (beq_one_injective _ _ hhalt) h h'

/-- With EVCNT, TRIES, HALT and the reserved bits 0, the word depends on RES, XFER and FV only. -/
theorem status_of_res_xfer_fv {w : Word} (hreserved : w &&& statusReserved = 0)
    (hevcnt : statusEvcnt w = 0) (htries : statusTries w = 0) (hhalt : statusHalt w = false)
    (r : Res) (x : Xfer) :
    setStatusRes r (setStatusXfer x w) =
      setStatusRes r (setStatusXfer x (setStatusFv (statusFv w) 0)) := by
  apply status_ext
  case hreserved => simp [hreserved]
  case hres => simp
  case hxfer => simp
  case hevcnt => simpa using hevcnt.trans (show 0 = statusEvcnt 0 by decide)
  case htries => simpa using htries.trans (show 0 = statusTries 0 by decide)
  case hfv => simp
  case hhalt => simpa using hhalt.trans (show false = statusHalt 0 by decide)

@[simp] theorem setStatusFv_setStatusFv (a b : Bool) (w : Word) :
    setStatusFv a (setStatusFv b w) = setStatusFv a w := by
  apply status_ext <;> simp

/-! ### The answers of the line and of the bus -/

section
variable {s : State}

/-- The sample does not depend on the registers: dropping the frame first changes neither the level
nor the environment after it. -/
theorem sampleLine_setFrameValid (b : Bool) (s : State) :
    sampleLine (setFrameValid b s) =
      ((sampleLine s).1, { setFrameValid b s with env := (sampleLine s).2.env }) := by
  unfold sampleLine
  rw [setFrameValid_env]
  cases s.env.lineDraws <;> rfl

theorem sampleLine_of_cons {l : Level} {ls : List Level} (h : s.env.lineDraws = l :: ls) :
    sampleLine s = (l, { s with env := { s.env with lineDraws := ls } }) := by
  simp only [sampleLine, h]

theorem memRead_of_cons {r : ReadAnswer} {rs : List ReadAnswer} (h : s.env.readDraws = r :: rs) :
    memRead s = (r, { s with env := { s.env with readDraws := rs } }) := by
  simp only [memRead, h]

/-! ### The four steps, and the exits -/

theorem tReady_of_high {exit : State → Out} (hl : s.tsMode = .inPu) (h : (sampleLine s).1 = .high) :
    tReady exit s =
      exit (setXfer .noFrame { setFrameValid false s with env := (sampleLine s).2.env }) := by
  simp only [tReady, hl, sampleLine_setFrameValid, h]

theorem tReady_of_low {exit : State → Out} (hl : s.tsMode = .inPu) (h : (sampleLine s).1 = .low) :
    tReady exit s =
      .next (goto .tFreeze { setFrameValid false s with env := (sampleLine s).2.env }) := by
  simp only [tReady, hl, sampleLine_setFrameValid, h]

theorem tDrain_of_ok {b : Window} (h : (memRead s).1 = .ok b) :
    tDrain s = { s with
      frame := b, frameLen := 32, frameValid := true, seq := .tRelease,
      status := setStatusXfer .frame (setStatusFv true s.status), env := (memRead s).2.env } := by
  obtain ⟨c, hc, ht⟩ | ⟨he, -⟩ := tDrain_cases s
  · obtain rfl : c = b := ReadAnswer.ok.inj (hc.symm.trans h)
    rw [ht, memRead_registers]
    rfl
  · rw [h] at he
    cases he

theorem tDrain_of_busError (h : (memRead s).1 = .busError) :
    tDrain s = { s with
      seq := .tRelease, status := setStatusXfer .busError s.status, env := (memRead s).2.env } := by
  obtain ⟨b, hb, -⟩ | ⟨-, ht⟩ := tDrain_cases s
  · rw [h] at hb
    cases hb
  · rw [ht, memRead_registers]
    rfl

/-- R106: the result TRY_READ_FRAME completes with, by the outcome of the transport; R106 gives none
for NONE. -/
def resOfXfer : Xfer → Res
  | .none => .none
  | .frame => .frame
  | .noFrame => .noFrame
  | .busError => .busError

theorem exitTryReadFrame_of_outcome (h : xferOf s ≠ .none) :
    exitTryReadFrame s = .next (complete (resOfXfer (xferOf s)) s) := by
  unfold exitTryReadFrame
  cases hx : xferOf s with
  | none => exact absurd hx h
  | _ => rfl

theorem exitPollOnce_of_frame (h : xferOf s = .frame) :
    exitPollOnce s = .next (goto .dDecode s) :=
  (exitPollOnce_cases s).elim And.right fun hne => absurd h hne.1

theorem exitPollOnce_of_ne_frame (h : xferOf s ≠ .frame) :
    exitPollOnce s = .next (complete .pollDone s) :=
  (exitPollOnce_cases s).elim (fun heq => absurd heq.1 h) And.right

/-! ### The step of a transport command in each TSEQ state -/

/-- R106: the exit of TSEQ under the running command; the other instructions do not enter it. -/
def tseqExit : Instr → State → Out
  | .tryReadFrame => exitTryReadFrame
  | .awaitStatus _ _ => exitAwaitStatus
  | .pollOnce => exitPollOnce
  | _ => fun _ => .fault .strayStep

@[simp] theorem tseqExit_tryReadFrame : tseqExit .tryReadFrame = exitTryReadFrame := rfl

@[simp] theorem tseqExit_awaitStatus (exp maxt : Byte) :
    tseqExit (.awaitStatus exp maxt) = exitAwaitStatus := rfl

@[simp] theorem tseqExit_pollOnce : tseqExit .pollOnce = exitPollOnce := rfl

variable {i : Instr}

theorem exec_of_tReady (hu : usesTransport i = true) (hs : s.seq = .tReady) :
    exec i s = tReady (tseqExit i) s := by
  obtain rfl | ⟨e, m, rfl⟩ | rfl := usesTransport_cases hu
  · simp only [exec, execTryReadFrame, hs, tseqExit_tryReadFrame]
  · simp only [exec, execAwaitStatus, hs, tseqExit_awaitStatus]
  · simp only [exec, execPollOnce, hs, tseqExit_pollOnce]

theorem exec_of_tFreeze (hu : usesTransport i = true) (hs : s.seq = .tFreeze) :
    exec i s = .next (tFreeze s) := by
  obtain rfl | ⟨e, m, rfl⟩ | rfl := usesTransport_cases hu
  · simp only [exec, execTryReadFrame, hs]
  · simp only [exec, execAwaitStatus, hs]
  · simp only [exec, execPollOnce, hs]

theorem exec_of_tDrain (hu : usesTransport i = true) (hs : s.seq = .tDrain) :
    exec i s = .next (tDrain s) := by
  obtain rfl | ⟨e, m, rfl⟩ | rfl := usesTransport_cases hu
  · simp only [exec, execTryReadFrame, hs]
  · simp only [exec, execAwaitStatus, hs]
  · simp only [exec, execPollOnce, hs]

theorem exec_of_tRelease (hu : usesTransport i = true) (hs : s.seq = .tRelease) :
    exec i s = tseqExit i { s with tsMode := .inPu } := by
  obtain rfl | ⟨e, m, rfl⟩ | rfl := usesTransport_cases hu
  · simp only [exec, execTryReadFrame, hs, tRelease, tseqExit_tryReadFrame]
  · simp only [exec, execAwaitStatus, hs, tRelease, tseqExit_awaitStatus]
  · simp only [exec, execPollOnce, hs, tRelease, tseqExit_pollOnce]

/-- R102, R106: T_READY of TRY_READ_FRAME with the line high. -/
theorem exec_tryReadFrame_of_tReady_high (hs : s.seq = .tReady) (hl : s.tsMode = .inPu)
    (hhigh : (sampleLine s).1 = .high) :
    exec .tryReadFrame s = .next { s with
      frameValid := false, busy := false, seq := .idle, env := (sampleLine s).2.env,
      status := setStatusRes .noFrame (setStatusXfer .noFrame (setStatusFv false s.status)) } := by
  have hx : ∀ u, xferOf (setXfer .noFrame u) = .noFrame := fun u => statusXfer_setStatusXfer _ _
  rw [exec_of_tReady rfl hs, tReady_of_high hl hhigh, tseqExit_tryReadFrame,
    exitTryReadFrame_of_outcome (by simp [hx]), hx]
  rfl

/-- R105, R106: T_RELEASE of TRY_READ_FRAME completes with the result of the outcome in XFER. -/
theorem exec_tryReadFrame_of_tRelease (hs : s.seq = .tRelease) {x : Xfer} (hne : x ≠ .none)
    (hx : statusXfer s.status = x) :
    exec .tryReadFrame s = .next { s with
      tsMode := .inPu, busy := false, seq := .idle,
      status := setStatusRes (resOfXfer x) s.status } := by
  subst hx
  rw [exec_of_tRelease rfl hs]
  exact exitTryReadFrame_of_outcome hne

end

/-! ### The statements on the four steps -/

/-- Settles O24: the level decides between the command's exit with XFER = NO_FRAME and T_FREEZE. -/
theorem readyStep : Obligations.ReadyStep := by
  unfold Obligations.ReadyStep
  intro s exp maxt hs hl
  refine ⟨fun hhigh => ⟨exec_tryReadFrame_of_tReady_high hs hl hhigh, ?await, ?poll⟩,
    fun hlow i hu => ?low⟩
  case await =>
    rw [exec_of_tReady rfl hs, tReady_of_high hl hhigh]
    rfl
  case poll =>
    rw [exec_of_tReady rfl hs, tReady_of_high hl hhigh, tseqExit_pollOnce,
      exitPollOnce_of_ne_frame (by simp [xferOf])]
    rfl
  case low =>
    rw [exec_of_tReady hu hs, tReady_of_low hl hlow]
    rfl

/-- Settles O25: the step is `tFreeze` under every transport command. -/
theorem freezeStep : Obligations.FreezeStep := by
  unfold Obligations.FreezeStep
  intro s i hs hu
  rw [exec_of_tFreeze hu hs]
  rfl

/-- Settles O26: the step is `tDrain` under every transport command. -/
theorem drainStep : Obligations.DrainStep := by
  unfold Obligations.DrainStep
  intro s i hs hu
  rw [exec_of_tDrain hu hs]
  exact ⟨fun b hb => by rw [tDrain_of_ok hb], fun he => by rw [tDrain_of_busError he]⟩

/-- Settles O27: no condition guards the release, and XFER decides the exit. -/
theorem releaseStep : Obligations.ReleaseStep := by
  unfold Obligations.ReleaseStep
  intro s exp maxt hs
  refine ⟨exec_tryReadFrame_of_tRelease hs (by decide), exec_tryReadFrame_of_tRelease hs (by decide),
    exec_tryReadFrame_of_tRelease hs (by decide), ?await, fun hframe => ?pollFrame,
    fun hframe => ?pollDone⟩
  case await =>
    rw [exec_of_tRelease rfl hs]
    rfl
  case pollFrame =>
    rw [exec_of_tRelease rfl hs]
    exact exitPollOnce_of_frame hframe
  case pollDone =>
    rw [exec_of_tRelease rfl hs]
    exact exitPollOnce_of_ne_frame hframe

/-! ### Several steps with no moves listed -/

theorem run_succ_of_step {s t : State} (h : step s = .next t) (k : Nat) :
    Host.Core.run Sys2Proof.core (k + 1) s = Host.Core.run Sys2Proof.core k t := by
  have hcore : Sys2Proof.core.step s = .next t := h
  simp only [Host.Core.run, hcore]

section
variable {s t : State}

/-- With no moves listed, the block's turn is one step of the command in CMD. -/
theorem run_succ_of_exec (hin : s.env.inputs = []) (hhalt : s.seq ≠ .halted)
    (hbusy : s.seq = .idle → s.busy = true) (hx : exec (decodeCommand s.cmd) s = .next t) (k : Nat) :
    Host.Core.run Sys2Proof.core (k + 1) s = Host.Core.run Sys2Proof.core k t :=
  run_succ_of_step (((stepRunsTheCommand s hhalt hbusy).1 hin).trans hx) k

/-- With no moves listed, a transport command in a TSEQ state takes its step. -/
theorem run_succ_of_tseq (hq : isTseq s.seq) (hin : s.env.inputs = [])
    (hx : exec (decodeCommand s.cmd) s = .next t) (k : Nat) :
    Host.Core.run Sys2Proof.core (k + 1) s = Host.Core.run Sys2Proof.core k t := by
  refine run_succ_of_exec hin (fun h => ?_) (fun h => ?_) hx k <;> simp [isTseq, h] at hq

/-- The block at T_DRAIN, after T_READY with the line low and T_FREEZE (R102, R103): the old frame
dropped, the line driven, `ls` the samples still to come. -/
def atDrain (ls : List Level) (s : State) : State :=
  { s with
    tsMode := .outLow, seq := .tDrain, frameValid := false, status := setStatusFv false s.status
    env := { s.env with lineDraws := ls } }

/-- The block at T_RELEASE after a drain that read `b` (R104), `ls` and `rs` the answers still to
come. -/
def atReleaseWith (b : Window) (ls : List Level) (rs : List ReadAnswer) (s : State) : State :=
  { s with
    tsMode := .outLow, seq := .tRelease, frame := b, frameLen := 32, frameValid := true
    status := setStatusXfer .frame (setStatusFv true s.status)
    env := { s.env with lineDraws := ls, readDraws := rs } }

/-- The block at T_RELEASE after a drain that failed (R104). -/
def atReleaseFailed (ls : List Level) (rs : List ReadAnswer) (s : State) : State :=
  { s with
    tsMode := .outLow, seq := .tRelease, frameValid := false
    status := setStatusXfer .busError (setStatusFv false s.status)
    env := { s.env with lineDraws := ls, readDraws := rs } }

@[simp] theorem atDrain_status (ls : List Level) (s : State) :
    (atDrain ls s).status = setStatusFv false s.status := rfl

variable {ls : List Level} (hin : s.env.inputs = []) (hs : s.seq = .tReady) (hl : s.tsMode = .inPu)
  (hu : usesTransport (decodeCommand s.cmd) = true) (hline : s.env.lineDraws = .low :: ls)
include hin hs hl hu hline

/-- R102, R103: from T_READY with the line low to T_DRAIN. -/
theorem run_ready_freeze (k : Nat) :
    Host.Core.run Sys2Proof.core (k + 2) s = Host.Core.run Sys2Proof.core k (atDrain ls s) := by
  have hready := (exec_of_tReady hu hs).trans (tReady_of_low hl (by rw [sampleLine_of_cons hline]))
  rw [sampleLine_of_cons hline] at hready
  rw [run_succ_of_tseq (.inl hs) hin hready]
  refine run_succ_of_tseq (.inr (.inl ?_)) ?_ (exec_of_tFreeze ?_ ?_) k
  exacts [rfl, hin, hu, rfl]

/-- R102 to R104: from T_READY with the line low and a frame read to T_RELEASE. -/
theorem run_transport_ok {b : Window} {rs : List ReadAnswer} (hread : s.env.readDraws = .ok b :: rs)
    (k : Nat) :
    Host.Core.run Sys2Proof.core (k + 3) s =
      Host.Core.run Sys2Proof.core k (atReleaseWith b ls rs s) := by
  have hanswer := memRead_of_cons (s := atDrain ls s) hread
  have hdrain := exec_of_tDrain (s := atDrain ls s) hu rfl
  rw [tDrain_of_ok (by rw [hanswer]), hanswer, atDrain_status, setStatusFv_setStatusFv] at hdrain
  rw [run_ready_freeze hin hs hl hu hline (k + 1)]
  exact run_succ_of_tseq (s := atDrain ls s) (.inr (.inr (.inl rfl))) hin hdrain k

/-- R102 to R104: from T_READY with the line low and a BusError to T_RELEASE. -/
theorem run_transport_busError {rs : List ReadAnswer} (hread : s.env.readDraws = .busError :: rs)
    (k : Nat) :
    Host.Core.run Sys2Proof.core (k + 3) s =
      Host.Core.run Sys2Proof.core k (atReleaseFailed ls rs s) := by
  have hanswer := memRead_of_cons (s := atDrain ls s) hread
  have hdrain := exec_of_tDrain (s := atDrain ls s) hu rfl
  rw [tDrain_of_busError (by rw [hanswer]), hanswer] at hdrain
  rw [run_ready_freeze hin hs hl hu hline (k + 1)]
  exact run_succ_of_tseq (s := atDrain ls s) (.inr (.inr (.inl rfl))) hin hdrain k

end

/-! ### TRY_READ_FRAME from its dispatch to its end -/

section
variable {s : State}

/-- From a good state in IDLE, the STATUS word of a command that has run TSEQ since its dispatch depends
on its result, the outcome and FV only (R20, R82). -/
theorem status_of_dispatched (h : GoodState s) (hs : s.seq = .idle) {r : Res} {x : Xfer} {b : Bool}
    {v : Word} (hv : setStatusRes r (setStatusXfer x (setStatusFv b 0)) = v) :
    setStatusRes r (setStatusXfer x (setStatusFv b (dispatchTo .tReady s).status)) = v := by
  have hsound := h.sound (by simp [hs])
  rw [← hv]
  simpa using status_of_res_xfer_fv (w := setStatusFv b (dispatchTo .tReady s).status)
    (by simp [hsound.reserved]) (by simp) (by simp) (by simp [hsound.halt]) r x

/-- The last step of TRY_READ_FRAME after a drain: T_RELEASE and its exit (R105, R106). -/
theorem run_tryReadFrame_release (hc : decodeCommand s.cmd = .tryReadFrame) (hs : s.seq = .tRelease)
    (hin : s.env.inputs = []) {x : Xfer} (hne : x ≠ .none) (hx : statusXfer s.status = x) :
    Host.Core.run Sys2Proof.core 1 s = .next { s with
      tsMode := .inPu, busy := false, seq := .idle,
      status := setStatusRes (resOfXfer x) s.status } := by
  have hrelease := exec_tryReadFrame_of_tRelease hs hne hx
  rw [← hc] at hrelease
  exact run_succ_of_tseq (.inr (.inr (.inr hs))) hin hrelease 0

end

/-- Settles O28: the dispatch, then T_READY's exit with the line high, or the three steps to T_RELEASE
and its exit with the line low. -/
theorem tryReadFrameRuns : Obligations.TryReadFrameRuns := by
  unfold Obligations.TryReadFrameRuns
  intro s ls hgood hs hb hcmd hin
  have hc : decodeCommand s.cmd = .tryReadFrame := (decodeCommand_eq_tryReadFrame_iff _).mpr hcmd
  have hu : usesTransport (decodeCommand s.cmd) = true := by rw [hc]; rfl
  have hl : s.tsMode = .inPu := hgood.released (.inl hs)
  have hdispatch := exec_tryReadFrame_of_idle hs
  rw [← hc] at hdispatch
  have hstart := run_succ_of_exec hin (by simp [hs]) (fun _ => hb) hdispatch
  refine ⟨fun hline => ?high, fun b rs hline hread => ?ok, fun rs hline hread => ?busError⟩
  case high =>
    have hsample := sampleLine_of_cons (s := dispatchTo .tReady s) hline
    have hready := exec_tryReadFrame_of_tReady_high (s := dispatchTo .tReady s) rfl hl (by rw [hsample])
    rw [hsample, status_of_dispatched hgood hs (v := 0x00000022) (by decide), ← hc] at hready
    rw [hstart, run_succ_of_tseq (s := dispatchTo .tReady s) (.inl rfl) hin hready]
    simp [Host.Core.run, hs]
  case ok =>
    have hrelease := run_tryReadFrame_release (s := atReleaseWith b ls rs (dispatchTo .tReady s))
      hc rfl hin (x := .frame) (by decide) (statusXfer_setStatusXfer _ _)
    have hword :
        setStatusRes .frame (atReleaseWith b ls rs (dispatchTo .tReady s)).status = 0x01000011 :=
      status_of_dispatched hgood hs (by decide)
    rw [resOfXfer, hword] at hrelease
    rw [hstart, run_transport_ok (s := dispatchTo .tReady s) hin rfl hl hu hline hread, hrelease]
    simp [atReleaseWith, hs, hl]
  case busError =>
    have hrelease := run_tryReadFrame_release (s := atReleaseFailed ls rs (dispatchTo .tReady s))
      hc rfl hin (x := .busError) (by decide) (statusXfer_setStatusXfer _ _)
    have hword :
        setStatusRes .busError (atReleaseFailed ls rs (dispatchTo .tReady s)).status = 0x00000033 :=
      status_of_dispatched hgood hs (by decide)
    rw [resOfXfer, hword] at hrelease
    rw [hstart, run_transport_busError (s := dispatchTo .tReady s) hin rfl hl hu hline hread, hrelease]
    simp [atReleaseFailed, hs, hl]

end Sys2Proof.Machine

/-! SAP (R120 to R129): what a command of a wait does in each SAP state, one attempt from P_ATTEMPT to
P_MATCH, and the attempts put together into the whole of a wait. -/

namespace Sys2Proof.Machine

/-! ### The step of AWAIT_STATUS in each SAP state -/

section
variable {s : State} {exp maxt : Byte}

theorem exec_awaitStatus_of_pStart (hs : s.seq = .pStart) :
    exec (.awaitStatus exp maxt) s = .next (pStart exp maxt s) := by
  simp only [exec, execAwaitStatus, hs]

theorem exec_awaitStatus_of_pAttempt (hs : s.seq = .pAttempt) (hlt : s.pTries < s.pMax) :
    exec (.awaitStatus exp maxt) s = .next (goto .tReady (setTries (s.pTries + 1) s)) := by
  simp only [exec, execAwaitStatus, hs, pAttempt, if_pos hlt]

theorem exec_awaitStatus_of_pMatch (hs : s.seq = .pMatch) :
    exec (.awaitStatus exp maxt) s = .next (pMatch s) := by
  simp only [exec, execAwaitStatus, hs]

theorem exec_awaitStatus_of_pInterval (hs : s.seq = .pInterval) :
    exec (.awaitStatus exp maxt) s = .next (pInterval s) := by
  simp only [exec, execAwaitStatus, hs]

/-- R121: without a budget P_START is the end of the wait. -/
theorem pStart_of_zero (exp : Byte) (s : State) :
    pStart exp 0 s = complete .timeout (setTries 0 { s with pExpected := exp, pMax := 0 }) := by
  rw [pStart, if_pos rfl]

theorem pStart_of_ne_zero (h : maxt ≠ 0) :
    pStart exp maxt s = goto .pAttempt (setTries 0 { s with pExpected := exp, pMax := maxt }) :=
  if_neg h

/-- R123: what P_MATCH calls a match. -/
abbrev Matches (s : State) : Prop := xferOf s = .frame ∧ isAck (heldBytes s) s.pExpected = true

theorem pMatch_of_busError (h : xferOf s = .busError) : pMatch s = complete .busError s :=
  if_pos h

theorem pMatch_of_match (h : Matches s) : pMatch s = complete .ack (setFrameValid false s) := by
  have hne : xferOf s ≠ .busError := by simp [h.1]
  rw [pMatch, if_neg hne, if_pos h]

theorem pMatch_of_spent (hne : xferOf s ≠ .busError) (hm : ¬ Matches s) (hspent : s.pTries = s.pMax) :
    pMatch s = complete .timeout (setFrameValid false s) := by
  rw [pMatch, if_neg hne, if_neg hm, if_pos hspent]

theorem pMatch_of_left (hne : xferOf s ≠ .busError) (hm : ¬ Matches s) (hleft : s.pTries ≠ s.pMax) :
    pMatch s = goto .pInterval (setFrameValid false s) := by
  rw [pMatch, if_neg hne, if_neg hm, if_neg hleft]

theorem pInterval_of_tick {rest : List Input} (h : s.env.inputs = .tick :: rest) :
    pInterval s = goto .pAttempt (withInputs rest s) := by
  simp only [pInterval, waitTick, h, withInputs]

theorem pInterval_of_no_tick (h : ∀ rest, s.env.inputs ≠ .tick :: rest) : pInterval s = s :=
  (pInterval_cases s).elim (fun ⟨rest, htick, _⟩ => absurd htick (h rest)) And.right

theorem step_of_tick_at_pInterval {rest : List Input} (h : s.env.inputs = .tick :: rest)
    (hs : s.seq = .pInterval) : step s = spbTurn s := by
  simp only [step, advance, h, if_pos hs]

theorem step_of_tick_elsewhere {rest : List Input} (h : s.env.inputs = .tick :: rest)
    (hs : s.seq ≠ .pInterval) : step s = .next (withInputs rest s) := by
  simp only [step, advance, h, if_neg hs]

/-- R124 on the frame register: bytes at or above `frame_len` are not looked at. -/
theorem isAck_heldBytes_iff (s : State) (e : Byte) :
    isAck (heldBytes s) e = true ↔ s.frame[3] = 0x15#8 ∧ 5 ≤ s.frameLen.val ∧ s.frame[4] = e := by
  have hlength : (heldBytes s).length = s.frameLen.val := by
    simp only [heldBytes, List.length_take, Vector.length_toList]
    omega
  have hbyte : ∀ i (hi : i < 5), 5 ≤ s.frameLen.val → byteAt (heldBytes s) i = s.frame[i] := by
    intro i hi hlen
    rw [← byteAt_toList s.frame (by omega)]
    simp only [byteAt, heldBytes, List.getD_eq_getElem?_getD, List.getElem?_take_of_lt
      (show i < s.frameLen.val by omega)]
  simp only [isAck, Bool.and_eq_true, beq_iff_eq, decide_eq_true_eq, hlength, idSystemStatus]
  constructor
  · rintro ⟨⟨hid, hlen⟩, hpayload⟩
    exact ⟨(hbyte 3 (by decide) hlen).symm.trans hid, hlen,
      (hbyte 4 (by decide) hlen).symm.trans hpayload⟩
  · rintro ⟨hid, hlen, hpayload⟩
    exact ⟨⟨(hbyte 3 (by decide) hlen).trans hid, hlen⟩, (hbyte 4 (by decide) hlen).trans hpayload⟩

end

/-! ### The statements on the four steps -/

/-- Settles O29: P_START with and without a budget. -/
theorem startStep : Obligations.StartStep := by
  unfold Obligations.StartStep
  intro s exp maxt hs
  rw [exec_awaitStatus_of_pStart hs]
  constructor
  · rintro rfl
    rw [pStart_of_zero]
    rfl
  · intro hne
    rw [pStart_of_ne_zero hne]
    rfl

/-- Settles O30: below its budget the count does not wrap. -/
theorem attemptStep : Obligations.AttemptStep := by
  unfold Obligations.AttemptStep
  intro s exp maxt hs hlt
  obtain ⟨hnat, hle⟩ := toNat_succ_of_lt hlt
  refine ⟨hnat, hle, ?_⟩
  rw [exec_awaitStatus_of_pAttempt hs hlt]
  rfl

/-- Settles O31: the four ways out of P_MATCH, its match said on the frame register. -/
theorem matchStep : Obligations.MatchStep := by
  unfold Obligations.MatchStep
  intro s exp maxt hs ack dropped
  have hack : Matches s ↔ ack := and_congr_right fun _ => isAck_heldBytes_iff s s.pExpected
  rw [exec_awaitStatus_of_pMatch hs, ← hack]
  refine ⟨fun hx => ?busError, fun hm => ?ack, fun hx hm hspent => ?timeout, fun hx hm hleft => ?left⟩
  case busError => rw [pMatch_of_busError hx]; rfl
  case ack => rw [pMatch_of_match hm]; rfl
  case timeout => rw [pMatch_of_spent hx hm hspent]; rfl
  case left => rw [pMatch_of_left hx hm hleft]; rfl

/-- Settles O32: P_INTERVAL with and without a TICK, and the TICK that no state but P_INTERVAL takes. -/
theorem intervalStep : Obligations.IntervalStep := by
  unfold Obligations.IntervalStep
  intro s exp maxt rest
  refine ⟨fun hs htick => ?tick, fun hs hnone => ?hold, fun hs htick => ?elsewhere⟩
  case tick =>
    have hexec : exec (.awaitStatus exp maxt) s = .next (goto .pAttempt (withInputs rest s)) := by
      rw [exec_awaitStatus_of_pInterval hs, pInterval_of_tick htick]
    refine ⟨hexec, fun hc => ?_⟩
    rw [step_of_tick_at_pInterval htick hs, spbTurn_eq_exec (by simp [hs]) (by simp [hs]), hc, hexec]
    rfl
  case hold => rw [exec_awaitStatus_of_pInterval hs, pInterval_of_no_tick hnone]
  case elsewhere =>
    rw [step_of_tick_elsewhere htick hs]
    rfl

/-! ### A wait without a budget -/

/-- From a good state in IDLE, the STATUS word of a wait that ends at P_START depends on FV only (R20,
R82, R121). -/
theorem status_of_zero_budget {s : State} (h : GoodState s) (hs : s.seq = .idle) :
    setStatusRes .timeout (setStatusTries 0 (dispatchTo .pStart s).status) =
      if s.frameValid then 0x01000005 else 0x00000005 := by
  have hsound := h.sound (by simp [hs])
  have hword : (if s.frameValid then 0x01000005 else 0x00000005 : Word) =
      setStatusRes .timeout (setStatusFv s.frameValid 0) := by
    cases s.frameValid <;> decide
  rw [hword]
  apply status_ext
  case hreserved => simp [hsound.reserved]
  case hres => simp
  case hxfer => simpa using show Xfer.none = statusXfer 0 by decide
  case hevcnt => simpa using show 0 = statusEvcnt 0 by decide
  case htries => simpa using show 0 = statusTries 0 by decide
  case hfv => simp [hsound.fv]
  case hhalt => simpa [hsound.halt] using show false = statusHalt 0 by decide

/-- Settles O33: the dispatch and P_START are the whole wait. -/
theorem zeroBudgetTimesOut : Obligations.ZeroBudgetTimesOut := by
  unfold Obligations.ZeroBudgetTimesOut
  intro s exp hgood hs hb hc hin
  have hdispatch := exec_awaitStatus_of_idle hs exp 0
  have hstart := (startStep (dispatchTo .pStart s) exp 0 rfl).1 rfl
  rw [← hc] at hdispatch
  rw [status_of_zero_budget hgood hs, ← hc] at hstart
  rw [run_succ_of_exec hin (by simp [hs]) (fun _ => hb) hdispatch,
    run_succ_of_exec (s := dispatchTo .pStart s) hin (by simp) (by simp) hstart]
  simp [Host.Core.run, hs]

end Sys2Proof.Machine

/-! The whole of a wait (R126 to R128): what an attempt leaves for P_MATCH, one attempt from P_ATTEMPT to
its verdict, and the induction over the attempts that do not end the wait. -/

namespace Sys2Proof.Machine

/-! ### What an attempt leaves for P_MATCH -/

/-- The outcome of an attempt's transport (R102, R104). -/
def Attempt.xfer : Attempt → Xfer
  | .high => .noFrame
  | .frame _ => .frame
  | .busError => .busError

/-- The frame register holding the 32 bytes of `b`. -/
def loadFrame (b : Window) (s : State) : State := { s with frame := b, frameLen := 32 }

/-- The frame register and XFER after an attempt's transport (R102 to R105). -/
def Attempt.received : Attempt → State → State
  | .high, s => setXfer .noFrame (setFrameValid false s)
  | .frame b, s => setXfer .frame (setFrameValid true (loadFrame b (setFrameValid false s)))
  | .busError, s => setXfer .busError (setFrameValid false s)

@[simp] theorem received_keeps (a : Attempt) (s : State) :
    (a.received s).tsMode = s.tsMode ∧ (a.received s).seq = s.seq ∧
    (a.received s).pExpected = s.pExpected ∧ (a.received s).pMax = s.pMax ∧
    (a.received s).pTries = s.pTries ∧ (a.received s).cmd = s.cmd ∧ (a.received s).evq = s.evq ∧
    (a.received s).env = s.env ∧ statusTries (a.received s).status = statusTries s.status := by
  cases a <;> simp [Attempt.received, loadFrame]

@[simp] theorem xferOf_received (a : Attempt) (s : State) : xferOf (a.received s) = a.xfer := by
  cases a <;> simp [Attempt.received, Attempt.xfer, xferOf]

/-- R124: P_MATCH sees a match exactly when the attempt reads the acknowledgement it waits for. -/
theorem matches_received_iff (a : Attempt) (s : State) :
    Matches (a.received s) ↔ a.acknowledges s.pExpected = true := by
  unfold Matches
  rw [isAck_heldBytes_iff, xferOf_received]
  cases a <;> simp [Attempt.xfer, Attempt.acknowledges, Attempt.received, loadFrame]

theorem goesOn_iff (e : Byte) (a : Attempt) :
    a.goesOn e = true ↔ ¬ a.acknowledges e = true ∧ a.xfer ≠ .busError := by
  cases a <;> simp [Attempt.goesOn, Attempt.xfer]

/-! ### The moves and the answers of a list of attempts -/

/-- The environment before the move `m`, when `e` is the one after it. -/
def Env.beforeMove (m : Input) (e : Env) : Env := { e with inputs := m :: e.inputs }

/-- The environment before a turn of the block that draws nothing. -/
def Env.beforeTurn (e : Env) : Env := e.beforeMove .spb

/-- The environment before a turn of the block that samples the level `l`. -/
def Env.beforeSample (l : Level) (e : Env) : Env :=
  { e with lineDraws := l :: e.lineDraws }.beforeMove .spb

/-- The environment before a turn of the block that reads the answer `r`. -/
def Env.beforeRead (r : ReadAnswer) (e : Env) : Env :=
  { e with readDraws := r :: e.readDraws }.beforeMove .spb

/-- The environment before the given attempts, when `e` is the one after them. -/
def Env.beforeAttempts (as : List Attempt) (e : Env) : Env :=
  { e with
    inputs := waitInputs as ++ e.inputs
    lineDraws := as.map Attempt.level ++ e.lineDraws
    readDraws := as.flatMap Attempt.reads ++ e.readDraws }

theorem waitInputs_cons {l : List Attempt} (a : Attempt) (h : l ≠ []) :
    waitInputs (a :: l) = waitInputs [a] ++ .tick :: waitInputs l := by
  cases l with
  | nil => exact absurd rfl h
  | cons b rest => rfl

theorem length_waitInputs_cons {l : List Attempt} (a : Attempt) (h : l ≠ []) :
    (waitInputs (a :: l)).length = a.steps + ((waitInputs l).length + 1) := by
  simp [waitInputs_cons a h, waitInputs]

/-- R125: one TICK between two attempts. -/
theorem count_tick_waitInputs (as : List Attempt) : (waitInputs as).count .tick = as.length - 1 := by
  induction as with
  | nil => rfl
  | cons a rest ih =>
    cases rest with
    | nil => simp [waitInputs, List.count_replicate]
    | cons b rest => simp [waitInputs, List.count_replicate, ih]

theorem beforeAttempts_cons {l : List Attempt} (a : Attempt) (h : l ≠ []) (e : Env) :
    e.beforeAttempts (a :: l) = ((e.beforeAttempts l).beforeMove .tick).beforeAttempts [a] := by
  simp [Env.beforeAttempts, Env.beforeMove, waitInputs_cons a h]

/-- P_ATTEMPT, T_READY, P_MATCH. -/
theorem beforeAttempts_high (e : Env) :
    e.beforeAttempts [.high] = (e.beforeTurn.beforeSample .high).beforeTurn := rfl

/-- P_ATTEMPT, T_READY, T_FREEZE, T_DRAIN, T_RELEASE, P_MATCH. -/
theorem beforeAttempts_frame (b : Window) (e : Env) :
    e.beforeAttempts [.frame b] =
      ((e.beforeTurn.beforeTurn.beforeRead (.ok b)).beforeTurn.beforeSample .low).beforeTurn := rfl

theorem beforeAttempts_busError (e : Env) :
    e.beforeAttempts [.busError] =
      ((e.beforeTurn.beforeTurn.beforeRead .busError).beforeTurn.beforeSample .low).beforeTurn := rfl

/-! ### One step of a wait whose moves are listed -/

/-- The registers of `s` in the environment `e`. -/
def withEnv (e : Env) (s : State) : State := { s with env := e }

/-- `ts_mode <- IN_PU` (R105). -/
def releaseLine (s : State) : State := { s with tsMode := .inPu }

section
variable {s : State} {e : Env} {exp maxt : Byte} (hc : decodeCommand s.cmd = .awaitStatus exp maxt)
include hc

theorem step_of_listed_turn {t : State} (he : s.env = e.beforeTurn) (hhalt : s.seq ≠ .halted)
    (hbusy : s.seq = .idle → s.busy = true)
    (hx : exec (.awaitStatus exp maxt) (withEnv e s) = .next t) : step s = .next t := by
  rw [(stepRunsTheCommand s hhalt hbusy).2 e.inputs (by rw [he]; rfl), he, hc]
  exact hx

theorem step_dispatch (he : s.env = e.beforeTurn) (hs : s.seq = .idle) (hb : s.busy = true) :
    step s = .next (dispatchTo .pStart (withEnv e s)) :=
  step_of_listed_turn hc he (by simp [hs]) (fun _ => hb)
    (exec_awaitStatus_of_idle (s := withEnv e s) hs exp maxt)

/-- Past the dispatch a listed turn is the command's step. -/
theorem step_of_awaitStatus {q : Seq} {t : State} (he : s.env = e.beforeTurn) (hs : s.seq = q)
    (hidle : q ≠ .idle) (hhalt : q ≠ .halted)
    (hx : exec (.awaitStatus exp maxt) (withEnv e s) = .next t) : step s = .next t := by
  subst hs
  exact step_of_listed_turn hc he hhalt (fun h => absurd h hidle) hx

theorem step_pStart (he : s.env = e.beforeTurn) (hs : s.seq = .pStart) :
    step s = .next (pStart exp maxt (withEnv e s)) :=
  step_of_awaitStatus hc he hs (by decide) (by decide)
    (exec_awaitStatus_of_pStart (s := withEnv e s) hs)

theorem step_pAttempt (he : s.env = e.beforeTurn) (hs : s.seq = .pAttempt) (hlt : s.pTries < s.pMax) :
    step s = .next (goto .tReady (setTries (s.pTries + 1) (withEnv e s))) :=
  step_of_awaitStatus hc he hs (by decide) (by decide)
    (exec_awaitStatus_of_pAttempt (s := withEnv e s) hs hlt)

theorem step_tReady_high (he : s.env = e.beforeSample .high) (hs : s.seq = .tReady)
    (hl : s.tsMode = .inPu) :
    step s = .next (goto .pMatch (releaseLine (setXfer .noFrame (setFrameValid false (withEnv e s))))) := by
  have hready := ((readyStep (withEnv { e with lineDraws := .high :: e.lineDraws } s) exp maxt hs hl).1
    rfl).2.1
  rw [releaseLine, ← hl]
  exact step_of_awaitStatus hc he hs (by decide) (by decide) hready

theorem step_tReady_low (he : s.env = e.beforeSample .low) (hs : s.seq = .tReady)
    (hl : s.tsMode = .inPu) :
    step s = .next (goto .tFreeze (setFrameValid false (withEnv e s))) :=
  step_of_awaitStatus hc he hs (by decide) (by decide)
    ((readyStep (withEnv { e with lineDraws := .low :: e.lineDraws } s) exp maxt hs hl).2 rfl _ rfl)

theorem step_tFreeze (he : s.env = e.beforeTurn) (hs : s.seq = .tFreeze) :
    step s = .next (tFreeze (withEnv e s)) :=
  step_of_awaitStatus hc he hs (by decide) (by decide) (freezeStep (withEnv e s) _ hs rfl)

theorem step_tDrain_ok {b : Window} (he : s.env = e.beforeRead (.ok b)) (hs : s.seq = .tDrain) :
    step s = .next
      (goto .tRelease (setXfer .frame (setFrameValid true (loadFrame b (withEnv e s))))) :=
  step_of_awaitStatus hc he hs (by decide) (by decide)
    ((drainStep (withEnv { e with readDraws := .ok b :: e.readDraws } s) _ hs rfl).1 b rfl)

theorem step_tDrain_busError (he : s.env = e.beforeRead .busError) (hs : s.seq = .tDrain) :
    step s = .next (goto .tRelease (setXfer .busError (withEnv e s))) :=
  step_of_awaitStatus hc he hs (by decide) (by decide)
    ((drainStep (withEnv { e with readDraws := .busError :: e.readDraws } s) _ hs rfl).2 rfl)

theorem step_tRelease (he : s.env = e.beforeTurn) (hs : s.seq = .tRelease) :
    step s = .next (goto .pMatch (releaseLine (withEnv e s))) :=
  step_of_awaitStatus hc he hs (by decide) (by decide)
    (releaseStep (withEnv e s) exp maxt hs).2.2.2.1

theorem step_pMatch (he : s.env = e.beforeTurn) (hs : s.seq = .pMatch) :
    step s = .next (pMatch (withEnv e s)) :=
  step_of_awaitStatus hc he hs (by decide) (by decide)
    (exec_awaitStatus_of_pMatch (s := withEnv e s) hs)

/-- R125: the TICK and P_INTERVAL's step are one. -/
theorem step_pInterval (he : s.env = e.beforeMove .tick) (hs : s.seq = .pInterval) :
    step s = .next (goto .pAttempt (withEnv e s)) := by
  have htick := ((intervalStep s exp maxt e.inputs).1 hs (by rw [he]; rfl)).2 hc
  rw [he] at htick
  exact htick

end

/-! ### One attempt -/

theorem run_of_step {s t : State} {k : Nat} {o : Out} (h : step s = .next t)
    (hrest : Host.Core.run Sys2Proof.core k t = o) : Host.Core.run Sys2Proof.core (k + 1) s = o :=
  (run_succ_of_step h k).trans hrest

/-- An AWAIT_STATUS in state `q` of the sequencer with `n` attempts counted, the line released and the
environment `e` (R120, R122). -/
structure Waits (exp maxt : Byte) (n : Nat) (e : Env) (q : Seq) (s : State) : Prop where
  cmd : decodeCommand s.cmd = .awaitStatus exp maxt
  seq : s.seq = q
  line : s.tsMode = .inPu
  expected : s.pExpected = exp
  budget : s.pMax = maxt
  tries : s.pTries.toNat = n
  triesCopy : statusTries s.status = s.pTries
  evq : s.evq = []
  env : s.env = e

/-- P_MATCH with one more attempt counted and the environment `e`; what its transport received is not
yet in it. -/
def counted (e : Env) (s : State) : State :=
  goto .pMatch (releaseLine (setTries (s.pTries + 1) (withEnv e s)))

section
variable {exp maxt : Byte} {n : Nat} {e : Env} {s : State}

theorem Waits.lt_budget {q : Seq} (h : Waits exp maxt n e q s) (hn : n < maxt.toNat) :
    s.pTries < s.pMax := by
  rw [BitVec.lt_def, h.tries, h.budget]
  exact hn

theorem Waits.received {q : Seq} (h : Waits exp maxt n e q s) (a : Attempt) :
    Waits exp maxt n e q (a.received s) := by
  obtain ⟨hcmd, hseq, hline, hexp, hmax, htries, hcopy, hevq, henv⟩ := h
  constructor <;> simpa

theorem Waits.dropFrame {q : Seq} (h : Waits exp maxt n e q s) :
    Waits exp maxt n e q (setFrameValid false s) := by
  obtain ⟨hcmd, hseq, hline, hexp, hmax, htries, hcopy, hevq, henv⟩ := h
  constructor <;> simpa

theorem Waits.goto {q : Seq} (h : Waits exp maxt n e q s) (q' : Seq) :
    Waits exp maxt n e q' (goto q' s) := by
  obtain ⟨hcmd, -, hline, hexp, hmax, htries, hcopy, hevq, henv⟩ := h
  exact ⟨hcmd, rfl, hline, hexp, hmax, htries, hcopy, hevq, henv⟩

theorem Waits.withEnv {q : Seq} (h : Waits exp maxt n e q s) (e' : Env) :
    Waits exp maxt n e' q (withEnv e' s) := by
  obtain ⟨hcmd, hseq, hline, hexp, hmax, htries, hcopy, hevq, -⟩ := h
  exact ⟨hcmd, hseq, hline, hexp, hmax, htries, hcopy, hevq, rfl⟩

theorem Waits.counted {e' : Env} (h : Waits exp maxt n e' .pAttempt s) (hn : n < maxt.toNat) :
    Waits exp maxt (n + 1) e .pMatch (counted e s) where
  cmd := h.cmd
  seq := rfl
  line := rfl
  expected := h.expected
  budget := h.budget
  tries := (toNat_succ_of_lt (h.lt_budget hn)).1.trans (by rw [h.tries])
  triesCopy := statusTries_setStatusTries _ _
  evq := h.evq
  env := rfl

/-- R122, R102, R103: an attempt with the line low, from P_ATTEMPT to T_DRAIN. -/
theorem run_attempt_to_drain
    (h : Waits exp maxt n ((e.beforeTurn.beforeSample .low).beforeTurn) .pAttempt s)
    (hn : n < maxt.toNat) (k : Nat) :
    Host.Core.run Sys2Proof.core (k + 3) s = Host.Core.run Sys2Proof.core k
      (tFreeze (setFrameValid false (setTries (s.pTries + 1) (withEnv e s)))) := by
  refine run_of_step (step_pAttempt h.cmd h.env h.seq (h.lt_budget hn)) ?_
  refine run_of_step (step_tReady_low h.cmd rfl rfl h.line) ?_
  exact run_of_step (step_tFreeze h.cmd rfl rfl) rfl

/-- R105, R106, R123: from T_RELEASE to what P_MATCH makes of the attempt. -/
theorem run_release_match (hc : decodeCommand s.cmd = .awaitStatus exp maxt) (hs : s.seq = .tRelease)
    (he : s.env = e.beforeTurn.beforeTurn) (k : Nat) :
    Host.Core.run Sys2Proof.core (k + 2) s =
      Host.Core.run Sys2Proof.core k (pMatch (goto .pMatch (releaseLine (withEnv e s)))) := by
  refine run_of_step (step_tRelease hc he hs) ?_
  exact run_of_step (step_pMatch hc rfl rfl) rfl

/-- R122 to R123: an attempt within the budget, from P_ATTEMPT to what P_MATCH makes of it. -/
theorem run_attempt (a : Attempt) (h : Waits exp maxt n (e.beforeAttempts [a]) .pAttempt s)
    (hn : n < maxt.toNat) (k : Nat) :
    Host.Core.run Sys2Proof.core (k + a.steps) s =
      Host.Core.run Sys2Proof.core k (pMatch (a.received (counted e s))) := by
  cases a with
  | high =>
    rw [beforeAttempts_high] at h
    refine run_of_step (k := k + 2) (step_pAttempt h.cmd h.env h.seq (h.lt_budget hn)) ?_
    refine run_of_step (step_tReady_high h.cmd rfl rfl h.line) ?_
    exact run_of_step (step_pMatch h.cmd rfl rfl) rfl
  | frame b =>
    rw [beforeAttempts_frame] at h
    refine (run_attempt_to_drain h hn (k + 3)).trans ?_
    refine run_of_step (step_tDrain_ok (by exact h.cmd) rfl rfl) ?_
    exact run_release_match (by exact h.cmd) rfl rfl k
  | busError =>
    rw [beforeAttempts_busError] at h
    refine (run_attempt_to_drain h hn (k + 3)).trans ?_
    refine run_of_step (step_tDrain_busError (by exact h.cmd) rfl rfl) ?_
    exact run_release_match (by exact h.cmd) rfl rfl k

end

/-! ### From attempt to attempt -/

section
variable {exp maxt : Byte} {n : Nat} {e : Env} {s : State}

/-- R123, R125: after an attempt that does not end the wait, with budget left, a TICK leads to the next
attempt. -/
theorem run_to_next_attempt {a : Attempt} (ha : a.goesOn exp = true)
    (h : Waits exp maxt n (e.beforeMove .tick) .pMatch s) (hn : n < maxt.toNat) :
    ∃ t, Waits exp maxt n e .pAttempt t ∧ ∀ k,
      Host.Core.run Sys2Proof.core (k + 1) (pMatch (a.received s)) =
        Host.Core.run Sys2Proof.core k t := by
  obtain ⟨hack, hbus⟩ := (goesOn_iff exp a).mp ha
  have hleft : s.pTries ≠ s.pMax := BitVec.ne_of_lt (h.lt_budget hn)
  have hmatch : pMatch (a.received s) = goto .pInterval (setFrameValid false (a.received s)) :=
    pMatch_of_left (by simpa using hbus) (by rwa [matches_received_iff, h.expected]) (by simpa using hleft)
  have hinterval : Waits exp maxt n (e.beforeMove .tick) .pInterval (pMatch (a.received s)) := by
    rw [hmatch]
    exact (h.received a).dropFrame.goto .pInterval
  exact ⟨goto .pAttempt (withEnv e (pMatch (a.received s))), (hinterval.withEnv e).goto .pAttempt, fun k =>
    run_succ_of_step (step_pInterval hinterval.cmd hinterval.env hinterval.seq) k⟩

/-- The attempts that go on, then one more: from P_ATTEMPT to what P_MATCH makes of the last. -/
theorem run_attempts (a : Attempt) {as : List Attempt} (has : ∀ b ∈ as, b.goesOn exp = true)
    (hn : n + as.length < maxt.toNat) (h : Waits exp maxt n (e.beforeAttempts (as ++ [a])) .pAttempt s) :
    ∃ t, Waits exp maxt (n + as.length + 1) e .pMatch t ∧ ∀ k,
      Host.Core.run Sys2Proof.core (k + (waitInputs (as ++ [a])).length) s =
        Host.Core.run Sys2Proof.core k (pMatch (a.received t)) := by
  induction as generalizing n s with
  | nil =>
    refine ⟨counted e s, h.counted hn, fun k => ?_⟩
    rw [← run_attempt a h hn k]
    simp [waitInputs]
  | cons b as ih =>
    obtain ⟨hb, hrest⟩ := List.forall_mem_cons.mp has
    rw [List.length_cons] at hn
    have hne : as ++ [a] ≠ [] := by simp
    rw [List.cons_append, beforeAttempts_cons b hne] at h
    obtain ⟨u, hu, hnext⟩ := run_to_next_attempt hb
      (h.counted (e := (e.beforeAttempts (as ++ [a])).beforeMove .tick) (by omega)) (by omega)
    obtain ⟨t, ht, hlast⟩ := ih hrest (by omega) hu
    refine ⟨t, ?_, fun k => ?_⟩
    · rw [List.length_cons, show n + (as.length + 1) + 1 = n + 1 + as.length + 1 by omega]
      exact ht
    · have hsteps : k + (waitInputs (b :: (as ++ [a]))).length =
          k + (waitInputs (as ++ [a])).length + 1 + b.steps := by
        rw [length_waitInputs_cons b hne]
        omega
      calc Host.Core.run Sys2Proof.core (k + (waitInputs (b :: (as ++ [a]))).length) s
        _ = Host.Core.run Sys2Proof.core (k + (waitInputs (as ++ [a])).length + 1)
              (pMatch (b.received (counted _ s))) := by rw [hsteps, run_attempt b h (by omega)]
        _ = Host.Core.run Sys2Proof.core (k + (waitInputs (as ++ [a])).length) u := hnext _
        _ = Host.Core.run Sys2Proof.core k (pMatch (a.received t)) := hlast k

end

/-! ### The whole wait -/

section
variable {s : State} {exp maxt : Byte} {e : Env}

/-- R82, R121: the dispatch and P_START of a wait with a budget. -/
theorem run_wait_start (hgood : GoodState s) (hs : s.seq = .idle) (hb : s.busy = true)
    (hc : decodeCommand s.cmd = .awaitStatus exp maxt) (hm : 0 < maxt.toNat)
    (he : s.env = e.beforeTurn.beforeTurn) :
    ∃ t, Waits exp maxt 0 e .pAttempt t ∧ ∀ k,
      Host.Core.run Sys2Proof.core (k + 2) s = Host.Core.run Sys2Proof.core k t := by
  have hne : maxt ≠ 0 := by
    rintro rfl
    exact absurd hm (by decide)
  refine ⟨pStart exp maxt (withEnv e (dispatchTo .pStart (withEnv e.beforeTurn s))), ?waits,
    fun k => ?run⟩
  case waits =>
    rw [pStart_of_ne_zero hne]
    exact ⟨hc, rfl, hgood.released (.inl hs), rfl, rfl, rfl, statusTries_setStatusTries _ _, rfl, rfl⟩
  case run =>
    refine run_of_step (step_dispatch hc he hs hb) ?_
    exact run_succ_of_step (step_pStart (by exact hc) rfl rfl) k

theorem env_eq_of_answers {as : List Attempt} {more : List Input} {ls : List Level}
    {rs : List ReadAnswer} (hin : s.env.inputs = .spb :: .spb :: (waitInputs as ++ more))
    (hans : waitAnswers as ls rs s) :
    s.env = (({ s.env with inputs := more, lineDraws := ls, readDraws := rs }.beforeAttempts
      as).beforeTurn).beforeTurn := by
  obtain ⟨hlevels, hreads⟩ := hans
  simp only [Env.beforeTurn, Env.beforeMove, Env.beforeAttempts, ← hin, ← hlevels, ← hreads]

/-- A wait from its dispatch to what P_MATCH makes of its attempt `a`, when the attempts before it go on
and the budget holds them all. -/
theorem run_wait (a : Attempt) {as : List Attempt} {more : List Input} {ls : List Level}
    {rs : List ReadAnswer} (hgood : GoodState s) (hs : s.seq = .idle) (hb : s.busy = true)
    (hc : decodeCommand s.cmd = .awaitStatus exp maxt) (hn : as.length + 1 ≤ maxt.toNat)
    (has : ∀ b ∈ as, b.goesOn exp = true)
    (hin : s.env.inputs = .spb :: .spb :: (waitInputs (as ++ [a]) ++ more))
    (hans : waitAnswers (as ++ [a]) ls rs s) :
    ∃ t, Waits exp maxt (as.length + 1) { s.env with inputs := more, lineDraws := ls, readDraws := rs }
        .pMatch t ∧
      Host.Core.run Sys2Proof.core (2 + (waitInputs (as ++ [a])).length) s =
        .next (pMatch (a.received t)) := by
  obtain ⟨u, hu, hstart⟩ := run_wait_start hgood hs hb hc (by omega) (env_eq_of_answers hin hans)
  obtain ⟨t, ht, hattempts⟩ := run_attempts a has (by omega) hu
  rw [Nat.zero_add] at ht
  refine ⟨t, ht, ?_⟩
  rw [Nat.add_comm, hstart, ← Nat.zero_add (List.length _)]
  exact hattempts 0

end

/-! ### The statements on whole waits -/

/-- Settles O34: the last attempt goes on as the others do, and P_MATCH finds the budget spent. -/
theorem waitTimesOutAfterExactlyItsBudget : Obligations.WaitTimesOutAfterExactlyItsBudget := by
  unfold Obligations.WaitTimesOutAfterExactlyItsBudget
  intro s exp maxt as more ls rs hgood hs hb hc hm hlen has hin hans
  refine ⟨by rw [count_tick_waitInputs, hlen], ?_⟩
  obtain rfl | ⟨before, a, rfl⟩ := List.eq_nil_or_concat' as
  · exact absurd hm (by simp [← hlen])
  rw [List.length_append, List.length_singleton] at hlen
  obtain ⟨hack, hbus⟩ := (goesOn_iff exp a).mp (has a (by simp))
  obtain ⟨t, ht, hrun⟩ := run_wait a hgood hs hb hc hlen.le
    (fun b hmem => has b (List.mem_append_left _ hmem)) hin hans
  have htries : t.pTries = maxt := BitVec.eq_of_toNat_eq (ht.tries.trans hlen)
  rw [pMatch_of_spent (by simpa using hbus) (by rwa [matches_received_iff, ht.expected])
    (by simp [htries, ht.budget])] at hrun
  refine ⟨_, hrun, ?_⟩
  simp [Res.code, ht.line, ht.evq, ht.env, ht.triesCopy, htries]

/-- Settles O35: the attempt that matches is the last. -/
theorem waitAcknowledgesAtFirstMatch : Obligations.WaitAcknowledgesAtFirstMatch := by
  unfold Obligations.WaitAcknowledgesAtFirstMatch
  intro s exp maxt as b more ls rs hgood hs hb hc hn has hack hin hans
  refine ⟨by simp [count_tick_waitInputs], ?_⟩
  obtain ⟨t, ht, hrun⟩ := run_wait (.frame b) hgood hs hb hc hn has hin hans
  rw [pMatch_of_match (by rwa [matches_received_iff, ht.expected])] at hrun
  refine ⟨_, hrun, ?_⟩
  simp [Res.code, ht.line, ht.evq, ht.env, ht.triesCopy, ht.tries]

/-- Settles O36: the attempt whose drain fails is the last. -/
theorem waitEndsAtBusError : Obligations.WaitEndsAtBusError := by
  unfold Obligations.WaitEndsAtBusError
  intro s exp maxt as more ls rs hgood hs hb hc hn has hin hans
  obtain ⟨t, ht, hrun⟩ := run_wait .busError hgood hs hb hc hn has hin hans
  rw [pMatch_of_busError (xferOf_received _ _)] at hrun
  refine ⟨_, hrun, ?_⟩
  simp [Res.code, Attempt.received, ht.line, ht.evq, ht.env, ht.triesCopy, ht.tries]

end Sys2Proof.Machine

/-! FDEC (R140 to R149): what `Dec` returns by the length and the identifier, the D_DECODE step of each
command and of each FRAME row, and the steps put together into the whole of DECODE. -/

namespace Sys2Proof.Machine

/-! ### What Dec returns -/

section
variable {b : List Byte}

theorem byteAt_eq_getElem {i : Nat} (h : i < b.length) : byteAt b i = b[i] := by
  simp [byteAt, h]

/-- R142. -/
theorem dec_of_length_lt (p : Params) (h : b.length < 4) : dec p b = .decoded .decShort [] :=
  if_pos h

/-- R144. -/
theorem dec_of_shortSensor (p : Params) (h : 4 ≤ b.length) (hid : byteAt b 3 = idSensorData)
    (hlt : b.length < 26) : dec p b = .shortSensor := by
  rw [dec, if_neg (Nat.not_lt.mpr h), if_pos hid, if_pos hlt]

/-- R143. -/
theorem dec_of_sensorData (p : Params) (hid : byteAt b 3 = idSensorData) (hle : 26 ≤ b.length) :
    dec p b = .decoded .decSensor (encSensor p (sensorFields b)) := by
  rw [dec, if_neg (by omega), if_pos hid, if_neg (Nat.not_lt.mpr hle)]
  rfl

/-- R145. -/
theorem dec_of_systemStatus (p : Params) (h : 4 ≤ b.length) (hid : byteAt b 3 = idSystemStatus) :
    dec p b = .decoded .decStatus [] := by
  rw [dec, if_neg (Nat.not_lt.mpr h), hid, if_neg (by decide), if_pos rfl]
  rfl

/-- R146. -/
theorem dec_of_firmwareVersion (p : Params) (h : 4 ≤ b.length)
    (hid : byteAt b 3 = idFirmwareVersion) :
    dec p b = .decoded .decFirmware [encFirmware (b.drop fwTextOffset)] := by
  rw [dec, if_neg (Nat.not_lt.mpr h), hid, if_neg (by decide), if_neg (by decide), if_pos rfl]
  rfl

/-- R63, R147: REQUEST_MSG is unknown like every identifier that R62 does not name. -/
theorem dec_of_other (p : Params) (h : 4 ≤ b.length) (hsensor : byteAt b 3 ≠ idSensorData)
    (hstatus : byteAt b 3 ≠ idSystemStatus) (hfirmware : byteAt b 3 ≠ idFirmwareVersion) :
    dec p b = .decoded .decUnknown [] := by
  rw [dec, if_neg (Nat.not_lt.mpr h), if_neg hsensor, if_neg hstatus, if_neg hfirmware]
  exact ite_self _

/-- R141, R149: all that `Dec` reads of a byte sequence. -/
theorem dec_congr (p : Params) {c : List Byte} (hlen : b.length = c.length)
    (hid : byteAt b 3 = byteAt c 3) (hfields : sensorFields b = sensorFields c)
    (htext : b.drop fwTextOffset = c.drop fwTextOffset) : dec p b = dec p c := by
  rw [dec, dec, hlen, hid, hfields, htext]

end

/-! ### The D_DECODE step -/

section
variable {s : State} {done : Res → Res}

theorem deliver_eq_delivered (r : Res) (recs : List Event) (s : State) :
    deliver r recs s = delivered r recs s := rfl

theorem dDecode_of_empty (done : Res → Res) (hv : s.frameValid = false) :
    dDecode done s = .next (faulted 1 s) := by
  simp [dDecode, hv, raiseFault_eq_faulted, ModelFault.bit]

theorem dDecode_of_shortSensor (done : Res → Res) (hv : s.frameValid = true)
    (hd : dec machineParams (heldBytes s) = .shortSensor) :
    dDecode done s = .next (faulted 2 s) := by
  simp [dDecode, hv, hd, raiseFault_eq_faulted, ModelFault.bit]

theorem dDecode_of_decoded (done : Res → Res) (hv : s.frameValid = true) {cls : Res}
    {recs : List Event} (hd : dec machineParams (heldBytes s) = .decoded cls recs) :
    dDecode done s = .next (delivered (done cls) recs s) := by
  simp [dDecode, hv, hd, deliver_eq_delivered]

theorem exec_decode_of_dDecode (hs : s.seq = .dDecode) : exec .decode s = dDecode doneDecode s := by
  simp only [exec, execDecode, hs]

theorem exec_pollOnce_of_dDecode (hs : s.seq = .dDecode) :
    exec .pollOnce s = dDecode donePollOnce s := by
  simp only [exec, execPollOnce, hs]

/-! ### The FRAME rows at D_DECODE -/

theorem runningDone_of_decode {w : Word} (h : decodeCommand w = .decode) :
    runningDone w = some doneDecode := by
  simp only [runningDone, h]

theorem runningDone_of_pollOnce {w : Word} (h : decodeCommand w = .pollOnce) :
    runningDone w = some donePollOnce := by
  simp only [runningDone, h]

/-- R140: with a frame held, a FRAME row completes the running command with the row's class and
records. -/
theorem exec_frameRow_of_running (hs : s.seq = .dDecode) (hv : s.frameValid = true)
    (hdone : runningDone s.cmd = some done) {i : Instr} {r : Row}
    (hr : frameRow machineParams i = some r) :
    exec i s = .next (delivered (done r.1) r.2 s) := by
  simp [exec_frameRow s hr, decodeRow, hs, hdone, hv, deliver_eq_delivered]

/-- R140, R141: at D_DECODE with a frame held, the running command's step is that of the row the frame
decodes to. -/
theorem exec_command_eq_exec_heldRow (hs : s.seq = .dDecode) (hv : s.frameValid = true)
    (hc : decodeCommand s.cmd = .decode ∨ decodeCommand s.cmd = .pollOnce) {i : Instr}
    (hi : decodeFrame (heldBytes s) = .ok i) : exec (decodeCommand s.cmd) s = exec i s := by
  obtain ⟨r, hr, hd⟩ := dec_of_decodeFrame_ok (p := machineParams) hi
  obtain hc | hc := hc
  · rw [hc, exec_decode_of_dDecode hs, dDecode_of_decoded _ hv hd,
      exec_frameRow_of_running hs hv (runningDone_of_decode hc) hr]
  · rw [hc, exec_pollOnce_of_dDecode hs, dDecode_of_decoded _ hv hd,
      exec_frameRow_of_running hs hv (runningDone_of_pollOnce hc) hr]

end

/-! ### DECODE from its dispatch to its end -/

section
variable {s : State}

/-- R16: a register of 32 held bytes is held whole. -/
theorem heldBytes_of_full (h : s.frameLen = 32) : heldBytes s = s.frame.toList := by
  rw [heldBytes, h]
  exact List.take_of_length_le (by simp)

/-- R20: a word with RES and EVCNT only, for a count that its three bits hold. -/
theorem status_of_res_evcnt : ∀ (c : BitVec 4), ∀ n ≤ 4,
    setBits (setStatusEvcnt n 0) 0 c = c.setWidth 32 ||| (BitVec.ofNat 32 n <<< 8) := by
  decide

/-- From a good state in IDLE, the STATUS word of a DECODE that completes: its class and the number of
its records (R20, R82, R140). -/
theorem status_of_completed_decode (h : GoodState s) (hs : s.seq = .idle) (cls : Res) {n : Nat}
    (hn : n ≤ 4) :
    setStatusRes cls (setStatusEvcnt n (setStatusFv false (dispatchTo .dDecode s).status)) =
      cls.code.setWidth 32 ||| (BitVec.ofNat 32 n <<< 8) := by
  have hsound := h.sound (by simp [hs])
  rw [← status_of_res_evcnt cls.code n hn, ← setStatusRes]
  apply status_ext
  case hreserved => simp [hsound.reserved]
  case hres => simp
  case hxfer => simpa using show Xfer.none = statusXfer 0 by decide
  case hevcnt => simp
  case htries => simpa using show 0 = statusTries 0 by decide
  case hfv => simpa using show false = statusFv 0 by decide
  case hhalt => simpa [hsound.halt] using show false = statusHalt 0 by decide

/-- From a good state in IDLE with no frame held, the STATUS word of a DECODE that halts: RES = FAULTED
and HALT (R20, R82, R214). -/
theorem status_of_empty_decode (h : GoodState s) (hs : s.seq = .idle) (hv : s.frameValid = false) :
    setStatusHalt (setStatusRes .faulted (dispatchTo .dDecode s).status) = 0x8000000F := by
  have hsound := h.sound (by simp [hs])
  have hword : (0x8000000F : Word) = setStatusHalt (setStatusRes .faulted 0) := by decide
  rw [hword]
  apply status_ext
  case hreserved => simp [hsound.reserved]
  case hres => simp
  case hxfer => simpa using show Xfer.none = statusXfer 0 by decide
  case hevcnt => simpa using show 0 = statusEvcnt 0 by decide
  case htries => simpa using show 0 = statusTries 0 by decide
  case hfv => simpa [hsound.fv, hv] using show false = statusFv 0 by decide
  case hhalt => simp

/-- R82, R140: DECODE is its dispatch and D_DECODE. -/
theorem run_decode (hin : s.env.inputs = []) (hs : s.seq = .idle) (hb : s.busy = true)
    (hc : decodeCommand s.cmd = .decode) {t : State}
    (ht : dDecode doneDecode (dispatchTo .dDecode s) = .next t) :
    Host.Core.run Sys2Proof.core 2 s = .next t := by
  have hdispatch := exec_decode_of_idle hs
  rw [← exec_decode_of_dDecode (s := dispatchTo .dDecode s) rfl] at ht
  rw [← hc] at hdispatch ht
  rw [run_succ_of_exec hin (by simp [hs]) (fun _ => hb) hdispatch,
    run_succ_of_exec (s := dispatchTo .dDecode s) hin (by simp) (by simp) ht]
  rfl

end

/-! ### The statements -/

/-- Settles O40: the dispatch keeps the frame register, so its `frame_valid` decides D_DECODE; a frame
held in a good state has 32 bytes and is never ShortSensor. -/
theorem decodeRuns : Obligations.DecodeRuns := by
  unfold Obligations.DecodeRuns
  intro s hgood hs hb hcmd hin
  have hc : decodeCommand s.cmd = .decode := (decodeCommand_eq_decode_iff _).mpr hcmd
  have hsound : Sound s := hgood.sound (by simp [hs])
  refine ⟨fun hv => ?empty, fun hv => ?held⟩
  case empty =>
    rw [run_decode hin hs hb hc (dDecode_of_empty (s := dispatchTo .dDecode s) _ hv)]
    simp only [faulted, status_of_empty_decode hgood hs hv]
    simp [dispatchTo, hsound.fault]
  case held =>
    have hbytes := heldBytes_of_full (hsound.frameLen hv)
    cases hd : dec machineParams s.frame.toList with
    | shortSensor => exact absurd (hbytes ▸ hd) (hsound.dec_ne_shortSensor hv _)
    | decoded cls recs =>
      refine ⟨cls, recs, rfl, ?_⟩
      have hheld : dec machineParams (heldBytes (dispatchTo .dDecode s)) = .decoded cls recs := by
        rw [dispatchTo_heldBytes, hbytes, hd]
      rw [run_decode hin hs hb hc (dDecode_of_decoded (s := dispatchTo .dDecode s) _ hv hheld)]
      simp only [delivered, doneDecode,
        status_of_completed_decode hgood hs cls (dec_bounded hd).2]
      simp [dispatchTo, hs]

/-- Settles O11: the block's turn is the command's step, and that is the held row's; taking a listed
turn off the list changes neither the frame register nor CMD. -/
theorem stepRunsTheHeldFrame : Obligations.StepRunsTheHeldFrame := by
  unfold Obligations.StepRunsTheHeldFrame
  intro s i hs hv hc hi
  obtain ⟨hnil, hspb⟩ := stepRunsTheCommand s (by simp [hs]) (by simp [hs])
  exact ⟨fun h => (hnil h).trans (exec_command_eq_exec_heldRow hs hv hc hi),
    fun rest h => (hspb rest h).trans
      (exec_command_eq_exec_heldRow (s := withInputs rest s) hs hv hc hi)⟩

/-- Settles O37: the step of both commands is `dDecode`, and they differ in `done` only. -/
theorem decodeStep : Obligations.DecodeStep := by
  unfold Obligations.DecodeStep
  intro s hs
  rw [exec_decode_of_dDecode hs, exec_pollOnce_of_dDecode hs]
  exact ⟨fun hv => ⟨dDecode_of_empty _ hv, dDecode_of_empty _ hv⟩,
    fun hv hd => ⟨dDecode_of_shortSensor _ hv hd, dDecode_of_shortSensor _ hv hd⟩,
    fun cls recs hv hd => ⟨dDecode_of_decoded _ hv hd, dDecode_of_decoded _ hv hd⟩⟩

/-- Settles O38: each row's class and records stand in `frameRow`, and the running command decides the
result. -/
theorem frameRowsComplete : Obligations.FrameRowsComplete := by
  unfold Obligations.FrameRowsComplete
  intro s n c text f identifier hs hv
  constructor
  · intro hc
    have hrow : ∀ {i r}, frameRow machineParams i = some r →
        exec i s = .next (delivered r.1 r.2 s) :=
      exec_frameRow_of_running hs hv (runningDone_of_decode hc)
    exact ⟨hrow (r := rowShort) rfl, hrow (r := rowSystemStatus) rfl,
      hrow (r := rowFirmwareVersion text) rfl, hrow (r := rowSensorData machineParams f) rfl,
      hrow (r := rowRequestMsg) rfl, hrow (r := rowUnknown) rfl⟩
  · intro hc
    have hrow : ∀ {i r}, frameRow machineParams i = some r →
        exec i s = .next (delivered .pollDone r.2 s) :=
      exec_frameRow_of_running hs hv (runningDone_of_pollOnce hc)
    exact ⟨hrow (r := rowShort) rfl, hrow (r := rowSystemStatus) rfl,
      hrow (r := rowFirmwareVersion text) rfl, hrow (r := rowSensorData machineParams f) rfl,
      hrow (r := rowRequestMsg) rfl, hrow (r := rowUnknown) rfl⟩

/-- Settles O39: the length, then the identifier, selects the class. -/
theorem decByLengthAndIdentifier : Obligations.DecByLengthAndIdentifier := by
  unfold Obligations.DecByLengthAndIdentifier
  intro p b
  refine ⟨dec_of_length_lt p, fun h => ?_⟩
  rw [← byteAt_eq_getElem h]
  exact ⟨dec_of_shortSensor p h, dec_of_sensorData p, dec_of_systemStatus p h,
    dec_of_firmwareVersion p h, dec_of_other p h⟩

/-- Settles O42: the length, the identifier, the sensor-data fields and the text are the same. -/
theorem decIgnoresHeaderBytes : Obligations.DecIgnoresHeaderBytes := by
  unfold Obligations.DecIgnoresHeaderBytes
  intro p a0 a1 a2 c0 c1 c2 rest
  exact dec_congr p rfl rfl rfl rfl

end Sys2Proof.Machine

/-! EVENC (R170 to R182): rounding and the normalization, when each of the four lists of records holds a
given record, and what the firmware strip leaves. -/

namespace Sys2Proof.Machine

/-! ### Rounding (R6) -/

section
variable (t : TieMode) (n : Nat) {d : Nat}

/-- A quotient is rounded down only when its rest is at most one half, and up only when it is at least
one half. -/
theorem roundDiv_cases :
    (roundDiv t n d = n / d ∧ 2 * (n % d) ≤ d) ∨ (roundDiv t n d = n / d + 1 ∧ d ≤ 2 * (n % d)) := by
  simp only [roundDiv]
  split
  · exact .inl ⟨rfl, by omega⟩
  split
  · exact .inr ⟨rfl, by omega⟩
  cases t with
  | halfUp => exact .inr ⟨rfl, by omega⟩
  | halfEven =>
    dsimp only
    split
    · exact .inl ⟨rfl, by omega⟩
    · exact .inr ⟨rfl, by omega⟩

/-- A rounded quotient is at most one half above the exact one. -/
theorem mul_roundDiv_le : d * (2 * roundDiv t n d) ≤ 2 * n + d := by
  have hn := Nat.div_add_mod n d
  obtain ⟨hq, hr⟩ | ⟨hq, hr⟩ := roundDiv_cases t n (d := d)
  · rw [hq]; linarith [Nat.zero_le (n % d)]
  · rw [hq]; linarith

/-- A rounded quotient is at most one half below the exact one. -/
theorem two_mul_le_mul_roundDiv (hd : 0 < d) : 2 * n ≤ d * (2 * roundDiv t n d + 1) := by
  have hn := Nat.div_add_mod n d
  have hlt := Nat.mod_lt n hd
  obtain ⟨hq, hr⟩ | ⟨hq, hr⟩ := roundDiv_cases t n (d := d)
  · rw [hq]; linarith
  · rw [hq]; linarith

/-- An integer nearer than one half is the rounded quotient, whatever the tie mode. -/
theorem roundDiv_eq_of_near (hd : 0 < d) {m : Nat} (habove : 2 * n < d * (2 * m + 1))
    (hbelow : d * (2 * m) < 2 * n + d) : roundDiv t n d = m := by
  have hle : roundDiv t n d < m + 1 := by
    have := mul_roundDiv_le t n (d := d)
    exact Nat.lt_of_mul_lt_mul_left (a := 2 * d) (by linarith)
  have hge : m < roundDiv t n d + 1 := by
    have := two_mul_le_mul_roundDiv t n hd
    exact Nat.lt_of_mul_lt_mul_left (a := 2 * d) (by linarith)
  omega

/-- Were the order turned round, the two bounds would meet and the numerators be equal. -/
theorem roundDiv_mono (hd : 0 < d) {n m : Nat} (h : n ≤ m) : roundDiv t n d ≤ roundDiv t m d := by
  by_contra! hlt
  have hn := mul_roundDiv_le t n (d := d)
  have hm := two_mul_le_mul_roundDiv t m hd
  have hstep : d * (2 * (roundDiv t m d + 1)) ≤ d * (2 * roundDiv t n d) := by gcongr; omega
  have heq : n = m := by linarith
  simp [heq] at hlt

theorem roundDiv_halfUp_of_tie (h : 2 * (n % d) = d) : roundDiv .halfUp n d = n / d + 1 := by
  simp [roundDiv, h]

theorem roundDiv_halfEven_of_tie (h : 2 * (n % d) = d) : roundDiv .halfEven n d % 2 = 0 := by
  simp only [roundDiv, h, Nat.lt_irrefl, if_false]
  split <;> omega

end

/-! ### The normalization (R173, R182) -/

section
variable (t : TieMode)

theorem normalizeAxis_near (v : BitVec 16) :
    4096 * (2 * normalizeAxis t v) ≤ 2 * (v.toNat * 625) + 4096 ∧
      2 * (v.toNat * 625) ≤ 4096 * (2 * normalizeAxis t v + 1) :=
  ⟨mul_roundDiv_le t _, two_mul_le_mul_roundDiv t _ (by decide)⟩

theorem scaleBack_near (n : Nat) :
    10000 * (2 * scaleBack t n) ≤ 2 * (n * 65536) + 10000 ∧
      2 * (n * 65536) ≤ 10000 * (2 * scaleBack t n + 1) :=
  ⟨mul_roundDiv_le t _, two_mul_le_mul_roundDiv t _ (by decide)⟩

theorem normalizeAxis_le (v : BitVec 16) : normalizeAxis t v ≤ 10000 := by
  have hnear := normalizeAxis_near t v
  have hv := v.isLt
  omega

theorem normalizeAxis_eq_max_iff (v : BitVec 16) : normalizeAxis t v = 10000 ↔ 65533 ≤ v.toNat := by
  have hnear := normalizeAxis_near t v
  have hle := normalizeAxis_le t v
  omega

/-- R182: only 10000 and above scale back out of the 16-bit domain. -/
theorem le_scaleBack_iff (n : Nat) : 65536 ≤ scaleBack t n ↔ 10000 ≤ n := by
  have hnear := scaleBack_near t n
  omega

/-- R182: scaling back moves by less than half a raw unit, which is far less than half a normalized
one. -/
theorem normalizeAxis_scaleBack {n : Nat} (h : scaleBack t n ≤ 65535) :
    normalizeAxis t (BitVec.ofNat 16 (scaleBack t n)) = n := by
  have hnear := scaleBack_near t n
  have hw : (BitVec.ofNat 16 (scaleBack t n)).toNat = scaleBack t n :=
    Nat.mod_eq_of_lt (by omega)
  rw [normalizeAxis, hw]
  apply roundDiv_eq_of_near t _ (by decide) <;> omega

/-- A normalized value fits the 14 bits of its field (R86). -/
theorem eq_normField_iff (n : BitVec 14) (v : BitVec 16) :
    n = normField t v ↔ n.toNat = normalizeAxis t v := by
  have hfits : (normField t v).toNat = normalizeAxis t v :=
    Nat.mod_eq_of_lt (Nat.lt_of_le_of_lt (normalizeAxis_le t v) (by decide))
  rw [← hfits, BitVec.toNat_inj]

end

/-! ### The records of the four lists -/

section
variable (f : SensorFields) (e : Event)

/-- R172. -/
theorem mem_posRecords_iff (t : TieMode) :
    e ∈ posRecords t f ↔ f.configmask.getLsbD 4 = true ∧ f.sysinfo.getLsbD 0 = true ∧
      e = .position f.x f.y f.z (normField t f.x) (normField t f.y) (normField t f.z) := by
  simp [posRecords, and_assoc]

/-- R178. -/
theorem mem_awlRecords_iff :
    e ∈ awlRecords f ↔
      f.configmask.getLsbD 3 = true ∧ f.sysinfo.getLsbD 1 = true ∧ e = .airwheel f.airwheel := by
  simp [awlRecords, and_assoc]

/-- R176, R177. -/
theorem mem_tchRecords_iff :
    e ∈ tchRecords f ↔
      f.configmask.getLsbD 2 = true ∧ ∃ i, highestSet f.touch = some i ∧ e = touchRecord i := by
  unfold tchRecords
  cases highestSet f.touch <;> simp

theorem mem_unmappedGesture_iff (p : GestureUnmapped) (g : Byte) :
    e ∈ unmappedGesture p g ↔ p = .emitUnmapped ∧ e = .gesture g .unmapped := by
  cases p <;> simp [unmappedGesture]

/-- R67, R174: the tag of a class id is the one with that code. -/
theorem gestureTag_eq_some_iff (g : Byte) (tag : GestureTag) :
    gestureTag g = some tag ↔ 1 ≤ g.toNat ∧ g.toNat ≤ 7 ∧ tag.code = g.toNat := by
  revert g
  cases tag <;> decide

/-- R174, R175: a class id from 1 to 7 gives its tag, one from 8 what `P_GESTURE_UNMAPPED` says. -/
theorem mem_gesRecords_iff (p : GestureUnmapped) :
    e ∈ gesRecords p f ↔ f.configmask.getLsbD 1 = true ∧
      ((∃ tag, gestureTag f.gesture = some tag ∧ e = .gesture f.gesture tag) ∨
        (8 ≤ f.gesture.toNat ∧ p = .emitUnmapped ∧ e = .gesture f.gesture .unmapped)) := by
  have hnone := gestureTag_eq_none_iff f.gesture
  by_cases hzero : f.gesture = 0#8
  · simp [gesRecords, hzero, show gestureTag 0#8 = none from rfl]
  · cases htag : gestureTag f.gesture with
    | none =>
      have hge : 8 ≤ f.gesture.toNat := Nat.lt_of_not_le ((hnone.mp htag).resolve_left hzero)
      simp [gesRecords, hzero, htag, hge, mem_unmappedGesture_iff]
    | some tag =>
      obtain ⟨-, hle, -⟩ := (gestureTag_eq_some_iff _ _).mp htag
      have hlt : ¬ 8 ≤ f.gesture.toNat := Nat.not_le_of_lt (Nat.lt_succ_of_le hle)
      simp [gesRecords, hzero, htag, hlt]

/-- R177: the downward scan stops at the highest set bit below n. -/
theorem highestSetBelow_eq_some_iff (a : BitVec 15) (n i : Nat) :
    highestSetBelow a n = some i ↔
      i < n ∧ a.getLsbD i = true ∧ ∀ j, i < j → j < n → a.getLsbD j = false := by
  induction n with
  | zero => simp [highestSetBelow]
  | succ n ih =>
    rw [highestSetBelow]
    split
    next hset =>
      constructor
      · intro h
        cases h
        exact ⟨Nat.lt_add_one _, hset, fun j hlt hle => by omega⟩
      · rintro ⟨hi, -, habove⟩
        obtain hlt | rfl := Nat.lt_succ_iff_lt_or_eq.mp hi
        · simp [habove n hlt (Nat.lt_add_one _)] at hset
        · rfl
    next hclear =>
      rw [ih]
      constructor
      · rintro ⟨hi, hbit, habove⟩
        refine ⟨by omega, hbit, fun j hij hj => ?_⟩
        obtain hlt | rfl := Nat.lt_succ_iff_lt_or_eq.mp hj
        · exact habove j hij hlt
        · simpa using hclear
      · rintro ⟨hi, hbit, habove⟩
        have hne : i ≠ n := fun h => hclear (h ▸ hbit)
        exact ⟨by omega, hbit, fun j hij hj => habove j hij (by omega)⟩

theorem highestSet_eq_some_iff (a : BitVec 15) (i : Nat) :
    highestSet a = some i ↔
      i ≤ 14 ∧ a.getLsbD i = true ∧ ∀ j, i < j → j ≤ 14 → a.getLsbD j = false := by
  simp only [highestSet, highestSetBelow_eq_some_iff, Nat.lt_succ_iff]

/-- R85: the number of an action bit fits the four bits of its field. -/
theorem touch_eq_touchRecord_iff {i : Nat} (hi : i ≤ 14) (b : BitVec 4) (k : TouchKind)
    (q : TouchPos) :
    .touch b k q = touchRecord i ↔
      b.toNat = i ∧ k = touchKindOfIndex ((14 - i) / 5) ∧ q = touchPosOfIndex ((14 - i) % 5) := by
  have hfits : (BitVec.ofNat 4 i).toNat = i := Nat.mod_eq_of_lt (by omega)
  rw [touchRecord, Event.touch.injEq, ← BitVec.toNat_inj, hfits]

end

/-! ### A record of one kind stands in one list only (R171) -/

section
variable (p : Params) (f : SensorFields)

theorem position_mem_encSensor_iff (x y z : BitVec 16) (xn yn zn : BitVec 14) :
    .position x y z xn yn zn ∈ encSensor p f ↔ .position x y z xn yn zn ∈ posRecords p.tie f := by
  simp [encSensor, mem_gesRecords_iff, mem_tchRecords_iff, mem_awlRecords_iff, touchRecord]

theorem gesture_mem_encSensor_iff (c : Byte) (tag : GestureTag) :
    .gesture c tag ∈ encSensor p f ↔ .gesture c tag ∈ gesRecords p.unmapped f := by
  simp [encSensor, mem_posRecords_iff, mem_tchRecords_iff, mem_awlRecords_iff, touchRecord]

theorem touch_mem_encSensor_iff (b : BitVec 4) (k : TouchKind) (q : TouchPos) :
    .touch b k q ∈ encSensor p f ↔ .touch b k q ∈ tchRecords f := by
  simp [encSensor, mem_posRecords_iff, mem_gesRecords_iff, mem_awlRecords_iff]

theorem airwheel_mem_encSensor_iff (r : Byte) :
    .airwheel r ∈ encSensor p f ↔ .airwheel r ∈ awlRecords f := by
  simp [encSensor, mem_posRecords_iff, mem_gesRecords_iff, mem_tchRecords_iff, touchRecord]

end

/-! ### The firmware strip -/

theorem strippedLength_eq (text : List Byte) :
    strippedLength text = (text.rdropWhile isStripped).length := by
  simp [strippedLength, List.rdropWhile]

theorem strippedLength_le (text : List Byte) : strippedLength text ≤ text.length := by
  simpa [strippedLength] using (List.dropWhile_sublist (l := text.reverse) isStripped).length_le

theorem isStripped_iff (c : Byte) :
    isStripped c = true ↔ c = 0x00#8 ∨ c = 0x0D#8 ∨ c = 0x0A#8 ∨ c = 0x20#8 := by
  simp [isStripped, fwStripSet]

/-- R180: the text is cut where its trailing run of strip bytes begins. -/
theorem take_drop_strippedLength (text : List Byte) :
    text.take (strippedLength text) = text.rdropWhile isStripped ∧
      text.drop (strippedLength text) = text.rtakeWhile isStripped := by
  have hsplit : text.rdropWhile isStripped ++ text.rtakeWhile isStripped = text :=
    List.rdropWhile_append_rtakeWhile
  apply List.append_inj ((List.take_append_drop _ text).trans hsplit.symm)
  rw [List.length_take, min_eq_left (strippedLength_le text), strippedLength_eq]

/-! ### The statements -/

/-- Settles O45: each of the two records stands in its own list only; a normalized value fits its
field. -/
theorem positionAndAirwheelGates : Obligations.PositionAndAirwheelGates := by
  unfold Obligations.PositionAndAirwheelGates
  intro p f x y z xn yn zn r
  constructor
  · simp only [position_mem_encSensor_iff, mem_posRecords_iff, Event.position.injEq,
      eq_normField_iff]
  · rw [airwheel_mem_encSensor_iff, mem_awlRecords_iff, Event.airwheel.injEq]

/-- Settles O46: the class ids with a tag are 1 to 7, and the open parameter decides from 8 on. -/
theorem gestureRecords : Obligations.GestureRecords := by
  unfold Obligations.GestureRecords
  intro p f c t
  rw [gesture_mem_encSensor_iff, mem_gesRecords_iff]
  refine and_congr_right fun _ => ?_
  simp only [gestureTag_eq_some_iff, Event.gesture.injEq]
  constructor
  · rintro (⟨tag, htag, rfl, rfl⟩ | ⟨hge, hp, rfl, rfl⟩)
    · exact ⟨rfl, .inl htag⟩
    · exact ⟨rfl, .inr ⟨hge, hp, rfl⟩⟩
  · rintro ⟨rfl, htag | ⟨hge, hp, rfl⟩⟩
    · exact .inl ⟨t, htag, rfl, rfl⟩
    · exact .inr ⟨hge, hp, rfl, rfl⟩

/-- Settles O47: the scan finds the highest set bit, whose number the record holds. -/
theorem touchReportsHighestBit : Obligations.TouchReportsHighestBit := by
  unfold Obligations.TouchReportsHighestBit
  intro p f b k q
  rw [touch_mem_encSensor_iff, mem_tchRecords_iff]
  refine and_congr_right fun _ => exists_congr fun i => ?_
  rw [highestSet_eq_some_iff, and_assoc, and_assoc]
  exact and_congr_right fun hi => by rw [touch_eq_touchRecord_iff hi]

/-- Settles O49: an integer within one half is unique; at a tie the mode decides. -/
theorem normalizeRoundsToNearest : Obligations.NormalizeRoundsToNearest := by
  unfold Obligations.NormalizeRoundsToNearest
  intro t v
  refine ⟨fun _ m habove hbelow => roundDiv_eq_of_near t _ (by decide) habove hbelow, fun htie => ?_⟩
  have htie : 2 * (v.toNat * 625 % 4096) = 4096 := by rw [htie]
  exact ⟨roundDiv_halfUp_of_tie _ htie, roundDiv_halfEven_of_tie _ htie,
    (roundDiv_cases .halfEven _).imp And.left And.left⟩

/-- Settles O50: each property follows from N(v) lying within one half of v * 625 / 4096. -/
theorem normalizeProperties : Obligations.NormalizeProperties := by
  unfold Obligations.NormalizeProperties
  intro t
  refine ⟨fun v => ⟨normalizeAxis_le t v, normalizeAxis_eq_max_iff t v⟩, ?values, fun v => ?back,
    fun u v huv => roundDiv_mono t (by decide) (by omega)⟩
  case values => cases t <;> decide
  case back =>
    have hle := normalizeAxis_le t v
    refine ⟨normalizeAxis_scaleBack t, ?_, ?_⟩
    · rw [le_scaleBack_iff]
      omega
    · cases t <;> rfl

/-- Settles O51: the kept part does not end in a strip byte, and the cut-off part has no other. -/
theorem firmwareStripsTrailingBytes : Obligations.FirmwareStripsTrailingBytes := by
  unfold Obligations.FirmwareStripsTrailingBytes
  intro text _
  obtain ⟨htake, hdrop⟩ := take_drop_strippedLength text
  refine ⟨strippedLength text, rfl, strippedLength_le text, fun c hc => ?_, fun c hc => ?_⟩
  · rw [hdrop] at hc
    exact (isStripped_iff c).mp (List.mem_rtakeWhile_imp hc)
  · rw [htake] at hc
    have hkept : isStripped c ≠ true := by
      obtain ⟨hne, rfl⟩ := List.mem_getLast?_eq_getLast hc
      exact List.rdropWhile_last_not _ _ hne
    simpa [isStripped_iff] using hkept

end Sys2Proof.Machine

/-! POLL_ONCE (R200 to R204): how it ends after each outcome of the transport, the STATUS word after a
frame, and the steps put together into the whole of one polling iteration. -/

namespace Sys2Proof.Machine

section
variable {s : State}

/-! ### The last steps of POLL_ONCE -/

/-- R102, R106, R200: with the line high, POLL_ONCE ends at T_READY. -/
theorem run_pollOnce_ready_high (hc : decodeCommand s.cmd = .pollOnce) (hs : s.seq = .tReady)
    (hin : s.env.inputs = []) (hl : s.tsMode = .inPu) {ls : List Level}
    (hline : s.env.lineDraws = .high :: ls) :
    Host.Core.run Sys2Proof.core 1 s = .next { s with
      frameValid := false, busy := false, seq := .idle, env := { s.env with lineDraws := ls },
      status := setStatusRes .pollDone (setStatusXfer .noFrame (setStatusFv false s.status)) } := by
  have hsample := sampleLine_of_cons hline
  obtain ⟨-, -, hready⟩ := (readyStep s 0 0 hs hl).1 (by rw [hsample])
  rw [hsample, ← hc] at hready
  exact run_succ_of_tseq (.inl hs) hin hready 0

/-- R105, R106, R201: after a drain that failed, POLL_ONCE releases the line and completes. -/
theorem run_pollOnce_release_failed (hc : decodeCommand s.cmd = .pollOnce) (hs : s.seq = .tRelease)
    (hin : s.env.inputs = []) (hx : statusXfer s.status ≠ .frame) :
    Host.Core.run Sys2Proof.core 1 s = .next { s with
      tsMode := .inPu, busy := false, seq := .idle, status := setStatusRes .pollDone s.status } := by
  obtain ⟨-, -, -, -, -, hdone⟩ := releaseStep s 0 0 hs
  have hrelease := hdone hx
  rw [← hc] at hrelease
  exact run_succ_of_tseq (.inr (.inr (.inr hs))) hin hrelease 0

/-- POLL_ONCE at D_DECODE, the line released (R105, R106). -/
def atDecode (s : State) : State := { s with tsMode := .inPu, seq := .dDecode }

/-- R105, R140, R200: after a drain that read a frame, POLL_ONCE releases the line, decodes the frame
and completes with POLL_DONE whatever its class. -/
theorem run_pollOnce_release_decode (hc : decodeCommand s.cmd = .pollOnce) (hs : s.seq = .tRelease)
    (hin : s.env.inputs = []) (hx : statusXfer s.status = .frame) (hv : s.frameValid = true)
    {cls : Res} {recs : List Event} (hd : dec machineParams (heldBytes s) = .decoded cls recs) :
    Host.Core.run Sys2Proof.core 2 s = .next (delivered .pollDone recs (atDecode s)) := by
  obtain ⟨-, -, -, -, hframe, -⟩ := releaseStep s 0 0 hs
  have hrelease : exec .pollOnce s = .next (atDecode s) := hframe hx
  have hdecode := (exec_pollOnce_of_dDecode (s := atDecode s) rfl).trans
    (dDecode_of_decoded (s := atDecode s) donePollOnce hv hd)
  rw [← hc] at hrelease hdecode
  rw [run_succ_of_tseq (.inr (.inr (.inr hs))) hin hrelease,
    run_succ_of_exec (s := atDecode s) hin (by simp [atDecode]) (by simp [atDecode]) hdecode]
  rfl

/-! ### The STATUS word after a frame -/

/-- R20, R84: a word with XFER = FRAME, RES = POLL_DONE and a count that the three bits of EVCNT hold. -/
theorem status_of_pollDone_evcnt : ∀ n ≤ 4,
    setStatusRes .pollDone (setStatusEvcnt n (setStatusXfer .frame 0)) =
      0x0000001B ||| (BitVec.ofNat 32 n <<< 8) := by
  decide

/-- From a good state in IDLE, the STATUS word of a POLL_ONCE that has read and decoded a frame depends
on the number of its records only (R20, R82, R200). -/
theorem status_of_polled_frame (h : GoodState s) (hs : s.seq = .idle) {n : Nat} (hn : n ≤ 4) :
    setStatusRes .pollDone (setStatusEvcnt n (setStatusFv false
      (setStatusXfer .frame (setStatusFv true (dispatchTo .tReady s).status)))) =
      0x0000001B ||| (BitVec.ofNat 32 n <<< 8) := by
  have hsound := h.sound (by simp [hs])
  rw [← status_of_pollDone_evcnt n hn]
  apply status_ext
  case hreserved => simp [hsound.reserved]
  case hres => simp
  case hxfer => simp
  case hevcnt => simp
  case htries => simpa using show 0 = statusTries 0 by decide
  case hfv => simpa using show false = statusFv 0 by decide
  case hhalt => simpa [hsound.halt] using show false = statusHalt 0 by decide

end

/-! ### POLL_ONCE from its dispatch to its end -/

/-- Settles O41: the dispatch, then T_READY's exit with the line high, or the three steps to T_RELEASE
with the line low; a failed drain ends there, and a drained frame has 32 bytes, so `Dec` gives it a
class and D_DECODE completes. -/
theorem pollOnceRuns : Obligations.PollOnceRuns := by
  unfold Obligations.PollOnceRuns
  intro s ls hgood hs hb hcmd hin
  have hc : decodeCommand s.cmd = .pollOnce := (decodeCommand_eq_pollOnce_iff _).mpr hcmd
  have hu : usesTransport (decodeCommand s.cmd) = true := by rw [hc]; rfl
  have hl : s.tsMode = .inPu := hgood.released (.inl hs)
  have hdispatch := exec_pollOnce_of_idle hs
  rw [← hc] at hdispatch
  have hstart := run_succ_of_exec hin (by simp [hs]) (fun _ => hb) hdispatch
  refine ⟨fun hline => ?high, fun rs hline hread => ?busError, fun b rs hline hread => ?frame⟩
  case high =>
    have hready := run_pollOnce_ready_high (s := dispatchTo .tReady s) hc rfl hin hl hline
    rw [status_of_dispatched hgood hs (v := 0x0000002B) (by decide)] at hready
    rw [hstart, hready]
    simp [hs]
  case busError =>
    have hrelease := run_pollOnce_release_failed (s := atReleaseFailed ls rs (dispatchTo .tReady s))
      hc rfl hin (by simp [atReleaseFailed])
    have hword :
        setStatusRes .pollDone (atReleaseFailed ls rs (dispatchTo .tReady s)).status = 0x0000003B :=
      status_of_dispatched hgood hs (by decide)
    rw [hword] at hrelease
    rw [hstart, run_transport_busError (s := dispatchTo .tReady s) hin rfl hl hu hline hread, hrelease]
    simp [atReleaseFailed, hs, hl]
  case frame =>
    cases hd : dec machineParams b.toList with
    | shortSensor => exact absurd hd (dec_window _ (by simp))
    | decoded cls recs =>
      refine ⟨cls, recs, rfl, ?_⟩
      have hheld : dec machineParams (heldBytes (atReleaseWith b ls rs (dispatchTo .tReady s))) =
          .decoded cls recs := by
        rw [heldBytes_of_full rfl, ← hd]
        rfl
      have hrelease := run_pollOnce_release_decode (s := atReleaseWith b ls rs (dispatchTo .tReady s))
        hc rfl hin (statusXfer_setStatusXfer _ _) rfl hheld
      rw [hstart, run_transport_ok (s := dispatchTo .tReady s) hin rfl hl hu hline hread, hrelease]
      simp only [delivered, atDecode, atReleaseWith, status_of_polled_frame hgood hs (dec_bounded hd).2]
      simp [hs, hl]

end Sys2Proof.Machine

/-! The block in HALTED (R214), and the verdict of `configure()` (R211). -/

namespace Sys2Proof.Machine

/-! ### HALTED -/

/-- R214: in HALTED no step of the block is enabled. -/
theorem spbTurn_of_halted {s : State} (h : s.seq = .halted) : spbTurn s = .fault .halted := by
  simp only [spbTurn, h]

/-- Settles O21: an empty list and a listed turn both come to `spbTurn`, which HALTED refuses; of the
four moves a block reset is excluded, busy = 1 excludes the Commander's write, and HALTED excludes a
command's step, so only a move of the environment is left. -/
theorem haltedUntilBlockReset : Obligations.HaltedUntilBlockReset := by
  unfold Obligations.HaltedUntilBlockReset
  intro s hq hbusy
  refine ⟨fun hnil => ?empty, fun rest hspb => ?listed, fun t ht hreset => ?registers⟩
  case empty => rw [step_of_no_inputs hnil, spbTurn_of_halted hq]
  case listed => rw [step_of_spb hspb, spbTurn_of_halted (s := withInputs rest s) hq]
  case registers =>
    cases step_move ht with
    | blockReset rest hi => exact absurd hi (hreset rest)
    | command w rest hi hb => simp [hbusy] at hb
    | environment e ht => exact ⟨e, ht⟩
    | turn moves hne => exact absurd hq hne

/-! ### One step of `configure()` -/

/-- The controller goes on after a step exactly when the write completed and the wait ended with ACK
(R211). -/
theorem configStepResult_eq_ok_iff (k : ConfigStep) (w : WriteAnswer) (r : Res) :
    configStepResult k w r = .ok () ↔ w = .ok ∧ r = .ack := by
  cases w with
  | busError => simp [configStepResult]
  | ok => cases r <;> simp [configStepResult]

/-- A step reports a timeout in its own name only, when the write completed and the wait timed out
(R211). -/
theorem configStepResult_eq_timeout_iff (k j : ConfigStep) (w : WriteAnswer) (r : Res) :
    configStepResult j w r = .error (.configurationTimeout k) ↔ j = k ∧ w = .ok ∧ r = .timeout := by
  cases w with
  | busError => simp [configStepResult]
  | ok => cases r <;> simp [configStepResult]

/-! ### The whole of `configure()` -/

theorem configure_cons_of_ok {k : ConfigStep} {w : WriteAnswer} {r : Res}
    (h : configStepResult k w r = .ok ()) (rest : List (ConfigStep × WriteAnswer × Res)) :
    configure ((k, w, r) :: rest) = configure rest := by
  simp only [configure, h]

theorem configure_cons_of_error {k : ConfigStep} {w : WriteAnswer} {r : Res} {e : ConfigFailure}
    (h : configStepResult k w r = .error e) (rest : List (ConfigStep × WriteAnswer × Res)) :
    configure ((k, w, r) :: rest) = .error e := by
  simp only [configure, h]

/-- Success: no step stops the controller. -/
theorem configure_eq_ok_iff (l : List (ConfigStep × WriteAnswer × Res)) :
    configure l = .ok () ↔ ∀ x ∈ l, configStepResult x.1 x.2.1 x.2.2 = .ok () := by
  induction l with
  | nil => simp [configure]
  | cons x rest ih =>
    obtain ⟨k, w, r⟩ := x
    cases h : configStepResult k w r with
    | ok => simp [configure_cons_of_ok h, ih, h]
    | error e => simp [configure_cons_of_error h, h]

/-- Failure: the first step that stops the controller gives the reason. -/
theorem configure_eq_error_iff (l : List (ConfigStep × WriteAnswer × Res)) (e : ConfigFailure) :
    configure l = .error e ↔
      ∃ pre k w r post, l = pre ++ (k, w, r) :: post ∧ configStepResult k w r = .error e ∧
        ∀ x ∈ pre, configStepResult x.1 x.2.1 x.2.2 = .ok () := by
  constructor
  · intro hfail
    induction l with
    | nil => simp [configure] at hfail
    | cons x rest ih =>
      obtain ⟨k, w, r⟩ := x
      cases h : configStepResult k w r with
      | ok =>
        rw [configure_cons_of_ok h] at hfail
        obtain ⟨pre, k', w', r', post, rfl, hstop, hpre⟩ := ih hfail
        exact ⟨(k, w, r) :: pre, k', w', r', post, rfl, hstop, List.forall_mem_cons.mpr ⟨h, hpre⟩⟩
      | error e' =>
        rw [configure_cons_of_error h] at hfail
        exact ⟨[], k, w, r, rest, rfl, h.trans hfail, by simp⟩
  · rintro ⟨pre, k, w, r, post, rfl, hstop, hpre⟩
    induction pre with
    | nil => exact configure_cons_of_error hstop post
    | cons x pre ih =>
      obtain ⟨hx, hrest⟩ := List.forall_mem_cons.mp hpre
      exact (configure_cons_of_ok hx _).trans (ih hrest)

/-- Settles O54: `configure()` is decided by its first step that does not succeed, and of the answers
of a single step ACK alone goes on and a timed-out wait alone is a `ConfigurationTimeout`. -/
theorem configureVerdict : Obligations.ConfigureVerdict := by
  unfold Obligations.ConfigureVerdict
  intro l
  constructor
  · simp only [configure_eq_ok_iff, configStepResult_eq_ok_iff]
  · intro k
    simp only [configure_eq_error_iff, configStepResult_eq_timeout_iff, configStepResult_eq_ok_iff]
    constructor
    · rintro ⟨pre, j, w, r, post, hl, ⟨rfl, rfl, rfl⟩, hpre⟩
      exact ⟨pre, post, hl, hpre⟩
    · rintro ⟨pre, post, hl, hpre⟩
      exact ⟨pre, k, .ok, .timeout, post, hl, ⟨rfl, rfl, rfl⟩, hpre⟩

end Sys2Proof.Machine

/-! Reset (R226, R240): the reset values the spec gives, the step of a listed block reset from any state,
and the wait in IDLE. -/

namespace Sys2Proof.Machine

/-! ### The reset move and the wait -/

theorem step_of_blockReset {s : State} {rest : List Input} (h : s.env.inputs = .blockReset :: rest) :
    step s = .next (blockReset (withInputs rest s)) := by
  simp only [step, advance, h]

/-- R226: in IDLE with no command the block's turn changes nothing (log entry 10). -/
theorem spbTurn_of_waiting {s : State} (hq : s.seq = .idle) (hbusy : s.busy = false) :
    spbTurn s = .next s := by
  simp [spbTurn, hq, hbusy]

/-! ### The statements -/

/-- Settles O1: each of the seven registers by its field of `State.reset`. -/
theorem resetHoldsSpecValues : Obligations.ResetHoldsSpecValues :=
  ⟨rfl, rfl, rfl, rfl, rfl, rfl, rfl⟩

/-- Settles O2: `blockReset` leaves the registers of `State.reset`, whose values O1 gives, and keeps the
environment without the move taken; an empty list is the block's turn, which waits. -/
theorem blockResetFromAnyState : Obligations.BlockResetFromAnyState := by
  unfold Obligations.BlockResetFromAnyState
  intro s rest hin
  obtain ⟨hmode, hseq, hvalid, hbusy, hstatus, hfault, hevq⟩ := resetHoldsSpecValues
  have waits : ∀ s' : State, s'.seq = .idle → s'.busy = false → s'.env.inputs = [] →
      step s' = .next s' := fun s' hq hb hnil =>
    (step_of_no_inputs hnil).trans (spbTurn_of_waiting hq hb)
  exact ⟨blockReset (withInputs rest s), step_of_blockReset hin,
    hmode, hseq, hvalid, hbusy, hstatus, hfault, hevq, rfl, waits⟩

end Sys2Proof.Machine
